-- ==== Sys2Proof/Word.lean ====
section
/-! DEFINITION. The word types of Book III (R11, R30, R130 of spec/): registers of 64 and 32 bits, bytes, the 62-bit
real address, the 5-bit register number of an instruction field. -/

namespace Sys2Proof

/-- A 64-bit register or effective address. Bit i of the manual is the bit of weight 2^(63-i) (R11, 00_scope.md). -/
abbrev Word := BitVec 64

/-- A 32-bit register or instruction word. Bit i of the manual is the bit of weight 2^(31-i) (R11, 00_scope.md). -/
abbrev Half := BitVec 32

/-- A byte of real storage. -/
abbrev Byte := BitVec 8

/-- A 62-bit real address (R130, 20_memory.md). -/
abbrev RealAddr := BitVec 62

/-- The number of a General Purpose Register, a 5-bit instruction field (R30, 10_state.md). -/
abbrev Reg := BitVec 5

end Sys2Proof
end

