-- ==== Sys2Proof/Syntax.lean ====
section
/-! DEFINITION. The instructions of Book III: one constructor for each row of spec/opcode_table.json (R291, R292,
30_encoding.md), operands in the order of the assembler's spelling; and the words of Books I and II, by what Book III says
about them (R5). -/

namespace Sys2Proof

/-- The 24 instructions. `spr` is the SPR number n, not the swapped field (R290); a Bool named `l` is the L field. -/
inductive Instr where
  /-- System Call; `lev` is instruction bit 26 (R320, R294). -/
  | sc (lev : Bool)
  /-- Return From Interrupt Doubleword (R321). -/
  | rfid
  /-- Hypervisor Return From Interrupt Doubleword (R322). -/
  | hrfid
  /-- Move To Special Purpose Register (R340). -/
  | mtspr (spr : BitVec 10) (rs : Reg)
  /-- Move From Special Purpose Register (R341). -/
  | mfspr (rt : Reg) (spr : BitVec 10)
  /-- Move To Machine State Register Doubleword (R343). -/
  | mtmsrd (rs : Reg) (l : Bool)
  /-- Move From Machine State Register (R345). -/
  | mfmsr (rt : Reg)
  /-- Move To Machine State Register (R346). -/
  | mtmsr (rs : Reg) (l : Bool)
  /-- SLB Invalidate Entry (R370). -/
  | slbie (rb : Reg)
  /-- SLB Invalidate All (R371). -/
  | slbia
  /-- SLB Move To Entry (R373). -/
  | slbmte (rs rb : Reg)
  /-- SLB Move From Entry VSID (R374). -/
  | slbmfev (rt rb : Reg)
  /-- SLB Move From Entry ESID (R375). -/
  | slbmfee (rt rb : Reg)
  /-- TLB Invalidate Entry (R390). -/
  | tlbie (rb : Reg) (l : Bool)
  /-- TLB Invalidate Entry Local (R391). -/
  | tlbiel (rb : Reg) (l : Bool)
  /-- TLB Invalidate All (R392). -/
  | tlbia
  /-- TLB Synchronize (R396). -/
  | tlbsync
  /-- Load Quadword; `dq` is the 12-bit displacement field (R410, R284). -/
  | lq (rt : Reg) (dq : BitVec 12) (ra : Reg)
  /-- Store Quadword; `ds` is the 14-bit displacement field (R411, R284). -/
  | stq (rs : Reg) (ds : BitVec 14) (ra : Reg)
  /-- Move To Segment Register (R426). -/
  | mtsr (sr : BitVec 4) (rs : Reg)
  /-- Move To Segment Register Indirect (R427). -/
  | mtsrin (rs rb : Reg)
  /-- Move From Segment Register (R428). -/
  | mfsr (rt : Reg) (sr : BitVec 4)
  /-- Move From Segment Register Indirect (R429). -/
  | mfsrin (rt rb : Reg)
  /-- Page table entry synchronize, `sync` with L=2 (R398, R292). -/
  | ptesync
  deriving DecidableEq, Repr

/-- Words of other books to which Book III gives an encoding and an effect. They are not rows of the opcode table; the step
runs them beside `Instr`. -/
inductive Foreign where
  /-- `or Rx,Rx,Rx`, the priority hints and their unlisted kin (R296, R349). -/
  | orSame (rx : Reg)
  /-- `sync` with L=0 or L=1 (R292, R179). -/
  | sync (l : Bool)
  /-- `eieio` (R397). -/
  | eieio
  /-- `mftb RT,TBR` (R555). -/
  | mftb (rt : Reg) (tbr : BitVec 10)
  /-- A word of primary opcode 0, in the class of illegal instructions (R301). -/
  | opcode0
  deriving DecidableEq, Repr

/-! ### Words of Books I and II

Book III does not define these instructions, but adds exceptions, DSISR settings and Trace conditions to them (R5). Which word
is which is the family's (PRESUMED, assumption 47); where R478 gives a fragment of the opcode, they agree. -/

namespace Machine

/-- The form of an instruction word, which the DSISR of an Alignment interrupt depends on (R475). -/
inductive Form where
  /-- X-form: `(RA|0) + (RB)`, or `(RA|0)` for `lswi` and `stswi`. -/
  | x
  /-- D-form: `(RA|0) + EXTS(D)`. -/
  | d
  /-- DS-form: `(RA|0) + EXTS(DS || 0b00)`. -/
  | ds
  deriving DecidableEq, Repr

/-- The storage instructions that Book III tells apart (R464, R474, R612). -/
inductive StorageKind where
  /-- A fixed-point Load or Store of one register of `size` bytes. -/
  | load (size : Nat)
  | store (size : Nat)
  /-- A floating-point Load or Store of `size` bytes. -/
  | fpLoad (size : Nat)
  | fpStore (size : Nat)
  /-- `lmw`, `stmw`. -/
  | loadMultiple
  | storeMultiple
  /-- `lswi`, `lswx`, `stswi`, `stswx`; `indexed` is the form whose length stands in the XER. -/
  | loadString (indexed : Bool)
  | storeString (indexed : Bool)
  /-- `lwarx`, `ldarx`, `stwcx.`, `stdcx.`. -/
  | loadReserve (size : Nat)
  | storeConditional (size : Nat)
  | dcbz
  /-- `dcbst`, `dcbf[l]`. -/
  | dcbst
  /-- `dcbt`, `dcbtst`. -/
  | dcbt
  | icbi
  /-- `eciwx`, `ecowx`. -/
  | externalIn
  | externalOut
  deriving DecidableEq, Repr

/-- A storage instruction of Books I and II. -/
structure StorageWord where
  kind : StorageKind
  form : Form
  /-- It updates RA with the effective address. -/
  update : Bool
  /-- It is in item 2 of the list of R459, which keeps HSRR0 and HSRR1 for an aligned operand and translation off. -/
  listed : Bool
  deriving DecidableEq, Repr

/-- A word of Books I and II, by what Book III says about it. -/
inductive Outside where
  | storage (x : StorageWord)
  /-- A floating-point instruction that is no Load or Store (R483). -/
  | float
  /-- A Trap instruction (R480). -/
  | trap
  /-- A Branch instruction (R490). -/
  | branch
  /-- `isync`, which is context synchronizing. -/
  | isync
  /-- Any other word; `listed`: it is in items 3 to 6 of the list of R459. -/
  | plain (listed : Bool)
  deriving DecidableEq, Repr

end Machine

end Sys2Proof
end

