-- ==== Sys2Proof/Decode.lean ====
section
/-! DEFINITION. Decoding and encoding of instruction words (R280 to R296, 30_encoding.md). Instruction bit 31 is the least
significant bit of the word (R281); reserved fields are ignored by decoding and written as zero by encoding (R285, D33). -/

namespace Sys2Proof

open Machine

/-- Instruction bits a .. a+n-1, a field of n bits (R281). -/
def ifield (w : Half) (a n : Nat) : BitVec n := w.extractLsb' (32 - a - n) n

/-- Instruction bit a (R281). -/
def ibit (w : Half) (a : Nat) : Bool := w.getLsbD (31 - a)

/-- The two 5-bit halves of an SPR or TBR field exchanged: number from field, and field from number (R290). -/
def swapHalves (f : BitVec 10) : BitVec 10 := f.extractLsb' 0 5 ++ f.extractLsb' 5 5

/-- Why a word is no instruction of Book III (R286). -/
inductive DecodeError where
  /-- Fewer than four bytes. -/
  | truncated
  /-- No row of the table has this primary opcode. -/
  | primaryOpcode
  /-- Primary opcode 17 with instruction bit 30 not 1. -/
  | scBit30
  /-- No row of the table has this extended opcode under this primary opcode. -/
  | extendedOpcode
  /-- `sync` with L other than 2. -/
  | syncNotPtesync
  deriving DecidableEq, Repr

/-- Primary opcode 19 (XL-form): `rfid` and `hrfid` (R282, R291). -/
def decode19 (w : Half) : Except DecodeError Instr :=
  match (ifield w 21 10).toNat with
  | 18 => .ok .rfid
  | 274 => .ok .hrfid
  | _ => .error .extendedOpcode

/-- Primary opcode 31 (XFX- and X-form), by extended opcode (R282, R291, R292). -/
def decode31 (w : Half) : Except DecodeError Instr :=
  match (ifield w 21 10).toNat with
  | 467 => .ok (.mtspr (swapHalves (ifield w 11 10)) (ifield w 6 5))
  | 339 => .ok (.mfspr (ifield w 6 5) (swapHalves (ifield w 11 10)))
  | 178 => .ok (.mtmsrd (ifield w 6 5) (ibit w 15))
  | 83 => .ok (.mfmsr (ifield w 6 5))
  | 146 => .ok (.mtmsr (ifield w 6 5) (ibit w 15))
  | 434 => .ok (.slbie (ifield w 16 5))
  | 498 => .ok .slbia
  | 402 => .ok (.slbmte (ifield w 6 5) (ifield w 16 5))
  | 851 => .ok (.slbmfev (ifield w 6 5) (ifield w 16 5))
  | 915 => .ok (.slbmfee (ifield w 6 5) (ifield w 16 5))
  | 306 => .ok (.tlbie (ifield w 16 5) (ibit w 10))
  | 274 => .ok (.tlbiel (ifield w 16 5) (ibit w 10))
  | 370 => .ok .tlbia
  | 566 => .ok .tlbsync
  | 210 => .ok (.mtsr (ifield w 12 4) (ifield w 6 5))
  | 242 => .ok (.mtsrin (ifield w 6 5) (ifield w 16 5))
  | 595 => .ok (.mfsr (ifield w 6 5) (ifield w 12 4))
  | 659 => .ok (.mfsrin (ifield w 6 5) (ifield w 16 5))
  | 598 => if ifield w 9 2 = 2 then .ok .ptesync else .error .syncNotPtesync
  | _ => .error .extendedOpcode

/-- The instruction of Book III that a word is, or why it is none (R285, R291). -/
def decode (w : Half) : Except DecodeError Instr :=
  match (ifield w 0 6).toNat with
  | 17 => if ibit w 30 then .ok (.sc (ibit w 26)) else .error .scBit30
  | 19 => decode19 w
  | 31 => decode31 w
  | 56 => .ok (.lq (ifield w 6 5) (ifield w 16 12) (ifield w 11 5))
  | 62 => if ifield w 30 2 = 2 then .ok (.stq (ifield w 6 5) (ifield w 16 14) (ifield w 11 5))
          else .error .extendedOpcode
  | _ => .error .primaryOpcode

/-- A bit as a field of one bit. -/
def bit1 (b : Bool) : BitVec 1 := BitVec.ofBool b

/-- The X-form word with fields of 5 bits at instruction bits 6, 11 and 16 (R282). -/
def xform (f6 f11 f16 : BitVec 5) (xo : BitVec 10) : Half := 31#6 ++ f6 ++ f11 ++ f16 ++ xo ++ 0#1

/-- The word of an instruction, reserved fields zero (R282, R291). -/
def encode : Instr → Half
  | .sc lev => 17#6 ++ 0#20 ++ bit1 lev ++ 0#3 ++ 1#1 ++ 0#1
  | .rfid => 19#6 ++ 0#15 ++ 18#10 ++ 0#1
  | .hrfid => 19#6 ++ 0#15 ++ 274#10 ++ 0#1
  | .mtspr spr rs => 31#6 ++ rs ++ swapHalves spr ++ 467#10 ++ 0#1
  | .mfspr rt spr => 31#6 ++ rt ++ swapHalves spr ++ 339#10 ++ 0#1
  | .mtmsrd rs l => xform rs (0#4 ++ bit1 l) 0 178
  | .mfmsr rt => xform rt 0 0 83
  | .mtmsr rs l => xform rs (0#4 ++ bit1 l) 0 146
  | .slbie rb => xform 0 0 rb 434
  | .slbia => xform 0 0 0 498
  | .slbmte rs rb => xform rs 0 rb 402
  | .slbmfev rt rb => xform rt 0 rb 851
  | .slbmfee rt rb => xform rt 0 rb 915
  | .tlbie rb l => xform (0#4 ++ bit1 l) 0 rb 306
  | .tlbiel rb l => xform (0#4 ++ bit1 l) 0 rb 274
  | .tlbia => xform 0 0 0 370
  | .tlbsync => xform 0 0 0 566
  | .lq rt dq ra => 56#6 ++ rt ++ ra ++ dq ++ 0#4
  | .stq rs ds ra => 62#6 ++ rs ++ ra ++ ds ++ 2#2
  | .mtsr sr rs => xform rs (0#1 ++ sr) 0 210
  | .mtsrin rs rb => xform rs 0 rb 242
  | .mfsr rt sr => xform rt (0#1 ++ sr) 0 595
  | .mfsrin rt rb => xform rt 0 rb 659
  | .ptesync => xform 2 0 0 598

/-- A word of another book to which Book III gives an effect: `or Rx,Rx,Rx` (R296), `sync` (R292), `eieio` (R397), `mftb`
(R555), primary opcode 0 (R301). -/
def decodeForeign (w : Half) : Option Foreign :=
  match (ifield w 0 6).toNat with
  | 0 => some .opcode0
  | 31 =>
    match (ifield w 21 10).toNat with
    | 444 =>
      if ibit w 31 = false ∧ ifield w 6 5 = ifield w 11 5 ∧ ifield w 11 5 = ifield w 16 5
      then some (.orSame (ifield w 6 5)) else none
    | 598 => if ifield w 9 2 = 0 then some (.sync false)
             else if ifield w 9 2 = 1 then some (.sync true) else none
    | 854 => some .eieio
    | 371 => some (.mftb (ifield w 6 5) (swapHalves (ifield w 11 10)))
    | _ => none
  | _ => none

/-! ### Words of Books I and II (assumption 47) -/

/-- A Load or Store that R459 does not list. -/
def access (kind : StorageKind) (form : Form) (update : Bool) : Outside := .storage ⟨kind, form, update, false⟩

/-- A Load or Store of item 2 of R459: no update form. -/
def listedAccess (kind : StorageKind) (form : Form) : Outside := .storage ⟨kind, form, false, true⟩

/-- The indexed loads and stores, cache instructions and External Control under primary opcode 31. -/
def decodeIndexed : Nat → Option Outside
  | 20 => some (access (.loadReserve 4) .x false)
  | 21 => some (listedAccess (.load 8) .x)
  | 23 => some (listedAccess (.load 4) .x)
  | 53 => some (access (.load 8) .x true)
  | 54 => some (access .dcbst .x false)
  | 55 => some (access (.load 4) .x true)
  | 84 => some (access (.loadReserve 8) .x false)
  | 86 => some (access .dcbst .x false)
  | 87 => some (listedAccess (.load 1) .x)
  | 119 => some (access (.load 1) .x true)
  | 149 => some (listedAccess (.store 8) .x)
  | 150 => some (access (.storeConditional 4) .x false)
  | 151 => some (listedAccess (.store 4) .x)
  | 181 => some (access (.store 8) .x true)
  | 183 => some (access (.store 4) .x true)
  | 214 => some (access (.storeConditional 8) .x false)
  | 215 => some (listedAccess (.store 1) .x)
  | 246 => some (access .dcbt .x false)
  | 247 => some (access (.store 1) .x true)
  | 278 => some (access .dcbt .x false)
  | 279 => some (listedAccess (.load 2) .x)
  | 310 => some (access .externalIn .x false)
  | 311 => some (access (.load 2) .x true)
  | 341 => some (access (.load 4) .x false)
  | 343 => some (access (.load 2) .x false)
  | 373 => some (access (.load 4) .x true)
  | 375 => some (access (.load 2) .x true)
  | 407 => some (listedAccess (.store 2) .x)
  | 438 => some (access .externalOut .x false)
  | 439 => some (access (.store 2) .x true)
  | 533 => some (access (.loadString true) .x false)
  | 534 => some (access (.load 4) .x false)
  | 535 => some (access (.fpLoad 4) .x false)
  | 567 => some (access (.fpLoad 4) .x true)
  | 597 => some (access (.loadString false) .x false)
  | 599 => some (access (.fpLoad 8) .x false)
  | 631 => some (access (.fpLoad 8) .x true)
  | 661 => some (access (.storeString true) .x false)
  | 662 => some (access (.store 4) .x false)
  | 663 => some (access (.fpStore 4) .x false)
  | 695 => some (access (.fpStore 4) .x true)
  | 725 => some (access (.storeString false) .x false)
  | 727 => some (access (.fpStore 8) .x false)
  | 759 => some (access (.fpStore 8) .x true)
  | 790 => some (access (.load 2) .x false)
  | 918 => some (access (.store 2) .x false)
  | 982 => some (access .icbi .x false)
  | 983 => some (access (.fpStore 4) .x false)
  | 1014 => some (access .dcbz .x false)
  | _ => none

/-- The loads and stores of a primary opcode of their own. -/
def decodeDisplaced (w : Half) : Option Outside :=
  match (ifield w 0 6).toNat with
  | 32 => some (listedAccess (.load 4) .d)
  | 33 => some (access (.load 4) .d true)
  | 34 => some (listedAccess (.load 1) .d)
  | 35 => some (access (.load 1) .d true)
  | 36 => some (listedAccess (.store 4) .d)
  | 37 => some (access (.store 4) .d true)
  | 38 => some (listedAccess (.store 1) .d)
  | 39 => some (access (.store 1) .d true)
  | 40 => some (listedAccess (.load 2) .d)
  | 41 => some (access (.load 2) .d true)
  | 42 => some (access (.load 2) .d false)
  | 43 => some (access (.load 2) .d true)
  | 44 => some (listedAccess (.store 2) .d)
  | 45 => some (access (.store 2) .d true)
  | 46 => some (access .loadMultiple .d false)
  | 47 => some (access .storeMultiple .d false)
  | 48 => some (access (.fpLoad 4) .d false)
  | 49 => some (access (.fpLoad 4) .d true)
  | 50 => some (access (.fpLoad 8) .d false)
  | 51 => some (access (.fpLoad 8) .d true)
  | 52 => some (access (.fpStore 4) .d false)
  | 53 => some (access (.fpStore 4) .d true)
  | 54 => some (access (.fpStore 8) .d false)
  | 55 => some (access (.fpStore 8) .d true)
  | 58 =>
    match (ifield w 30 2).toNat with
    | 0 => some (listedAccess (.load 8) .ds)
    | 1 => some (access (.load 8) .ds true)
    | 2 => some (access (.load 4) .ds false)
    | _ => none
  | 62 =>
    match (ifield w 30 2).toNat with
    | 0 => some (listedAccess (.store 8) .ds)
    | 1 => some (access (.store 8) .ds true)
    | _ => none
  | _ => none

/-- The A-form extended opcodes of the floating-point instructions under primary opcode 59, and under 63. -/
def floatA59 : List Nat := [18, 20, 21, 22, 24, 25, 26, 28, 29, 30, 31]
def floatA63 : List Nat := [18, 20, 21, 22, 23, 24, 25, 26, 28, 29, 30, 31]

/-- The X- and XFL-form extended opcodes of the floating-point instructions under primary opcode 63. -/
def floatX63 : List Nat :=
  [0, 12, 14, 15, 32, 38, 40, 64, 70, 72, 134, 136, 264, 392, 424, 456, 488, 583, 711, 814, 815, 846]

/-- The extended opcodes under primary opcode 31 that items 3 to 6 of R459 list, with Rc=0 and OE=0. -/
def listed31 : List Nat :=
  [266, 40, 104, 0, 32, 28, 444, 316, 476, 124, 284, 60, 412, 954, 922, 986, 27, 24, 539, 536]

/-- The word is in items 3 to 6 of the list of R459 (arithmetic, compare, logical, rotate and shift, without suffix). -/
def plainListed (w : Half) : Bool :=
  match (ifield w 0 6).toNat with
  | 10 | 11 | 14 | 15 | 24 | 25 | 26 | 27 => true
  | 20 | 21 | 23 | 30 => !ibit w 31
  | 31 => !ibit w 31 && listed31.contains (ifield w 21 10).toNat
  | _ => false

/-- What Book III says about a word that is no instruction of its own (R5). -/
def decodeOutside (w : Half) : Outside :=
  match decodeDisplaced w with
  | some x => x
  | none =>
    match (ifield w 0 6).toNat with
    | 2 | 3 => .trap
    | 16 | 18 => .branch
    | 19 =>
      match (ifield w 21 10).toNat with
      | 16 | 528 => .branch
      | 150 => .isync
      | _ => .plain false
    | 31 =>
      match (ifield w 21 10).toNat with
      | 4 | 68 => .trap
      | xo => (decodeIndexed xo).getD (.plain (plainListed w))
    | 59 => if floatA59.contains (ifield w 26 5).toNat then .float else .plain false
    | 63 =>
      if floatA63.contains (ifield w 26 5).toNat || floatX63.contains (ifield w 21 10).toNat then .float else .plain false
    | _ => .plain (plainListed w)

/-! ### Bytes -/

/-- The word of four bytes, the byte at the lowest address most significant (R131, R280). -/
def wordOfBytes (b0 b1 b2 b3 : Byte) : Half := b0 ++ b1 ++ b2 ++ b3

/-- The four bytes of a word, the most significant first (R131). -/
def bytesOfWord (w : Half) : List Byte :=
  [w.extractLsb' 24 8, w.extractLsb' 16 8, w.extractLsb' 8 8, w.extractLsb' 0 8]

/-- Decoding a list of bytes: the instruction of the first four and the bytes left over. -/
def decodeBytes : List Byte → Except DecodeError (Instr × List Byte)
  | b0 :: b1 :: b2 :: b3 :: rest => (decode (wordOfBytes b0 b1 b2 b3)).map fun i => (i, rest)
  | _ => .error .truncated

/-- The instruction that the decoder reads from the instruction whose bits are `w` (bit 0 the least significant), laid out as
the hardware stores it; `none` where it refuses. Every row has 32 bits, so bits beyond `nbits` are 0. -/
def decodeTableWord (nbits w : Nat) : Option Instr :=
  match decodeBytes (bytesOfWord (BitVec.ofNat 32 (w % 2 ^ nbits))) with
  | .ok (i, _) => some i
  | .error _ => none

end Sys2Proof
end

