-- ==== Sys2Proof/Machine/Bits.lean ====
section
/-! DEFINITION. Bit fields in the manual's numbering, bit 0 the most significant (R11, 00_scope.md). -/

namespace Sys2Proof.Machine

/-- `x[i]` of a 64-bit value (R11). -/
def bit (x : Word) (i : Nat) : Bool := x.getLsbD (63 - i)

/-- The 64-bit mask whose 1 bits are bits a to b (R11). -/
def mask (a b : Nat) : Word := ((1#64 <<< (b - a + 1)) - 1) <<< (63 - b)

/-- `x[a : a+n-1]`, a field of n bits of a 64-bit value (R11). -/
def field (x : Word) (a n : Nat) : BitVec n := x.extractLsb' (64 - a - n) n

/-- `dst` with the bits of mask `m` taken from `src`. -/
def insertBits (dst src m : Word) : Word := (dst &&& ~~~m) ||| (src &&& m)

/-- `x` with bit i made `b`. -/
def setBit (x : Word) (i : Nat) (b : Bool) : Word := insertBits x (if b then mask i i else 0) (mask i i)

/-- `x[i]` of a 32-bit value (R11). -/
def hbit (x : Half) (i : Nat) : Bool := x.getLsbD (31 - i)

/-- The 32-bit mask of the one bit i (R11). -/
def hmask (i : Nat) : Half := 1#32 <<< (31 - i)

/-- The mask of bit i if `b`, else 0. -/
def hbitIf (i : Nat) (b : Bool) : Half := if b then hmask i else 0

/-- The low-order word of a 64-bit value, bits 32:63. -/
def low (x : Word) : Half := x.setWidth 32

/-- The high-order word of a 64-bit value, bits 0:31. -/
def high (x : Word) : Half := x.extractLsb' 32 32

/-- `zeros(32) || x`. -/
def zext (x : Half) : Word := x.setWidth 64

end Sys2Proof.Machine
end

