-- ==== Sys2Proof/Config.lean ====
section
/-! DEFINITION. What an implementation fixes: the parameters of R8 to R10 (00_scope.md) and section 7 of
92_eei_decisions.md, and the free values, which the spec leaves undefined (R19). -/

namespace Sys2Proof

/-- What a move to or from a hypervisor resource does in privileged non-hypervisor state (R34, D18, D38). -/
inductive HvPolicy where
  | interrupt
  | noop
  deriving DecidableEq, Repr

/-- What an undefined SPR number does (R342, D36): `byCase` is the default of D36, `illegal` the source's first choice in
every case, `alternative` its list of other choices: a Privileged Instruction interrupt in problem state if spr[0]=1, and
elsewhere undefined or boundedly undefined results. -/
inductive BadSprPolicy where
  | byCase
  | illegal
  | alternative
  deriving DecidableEq, Repr

/-- A range of real storage: first address and size in bytes. -/
structure Range where
  base : Nat
  size : Nat
  deriving DecidableEq, Repr

/-- What an event that PMC1 to PMC4 can be told to count is (R581). The first six are things a step does in Book III's own
terms; `other n` is an event of Book IV, whose count the environment gives. -/
inductive EventKind where
  | instruction
  | cycle
  | load
  | store
  | branch
  | takenBranch
  | other (n : Nat)
  deriving DecidableEq, Repr

/-- A row of `PM_EVENT_TABLE`: PMC(pmc+1) counts `event` when its selector in MMCR1 holds `code`; `branchUnit`: it is a Branch
Unit type of event (R581, R587). -/
structure PmRow where
  pmc : Nat
  code : BitVec 8
  event : EventKind
  branchUnit : Bool
  deriving DecidableEq, Repr

/-- The parameters of one implementation (R8, R9, R10; 92_eei_decisions.md sections 1 and 7). They stand in the state as plain
data, so that a statement about every state holds for every implementation; no step changes them. -/
structure Params where
  /-- `m`: the width of a real address (R8). -/
  realBits : Nat
  /-- `n`: the width of a virtual address (R8). -/
  virtualBits : Nat
  /-- `p`: log2 of the large page size (R8). -/
  largePageBits : Nat
  /-- `SLB_ENTRIES` (R8, R60). -/
  slbEntries : Nat
  /-- `r`: log2 of the HRMOR granularity (R8, R45). -/
  hrmorBits : Nat
  /-- `RMLS_TABLE`: the exponent j of the limit 2^j that each value of LPCR[RMLS] selects (R8, R42). -/
  rmlsTable : Vector Nat 8
  /-- `RMLR_IGNORE_HIGH`: the limit is compared with the low-order m bits of the address only (R156, D24). -/
  rmlrIgnoreHigh : Bool
  /-- `q`: the width of a partition identifier (R8, R46). -/
  lpidBits : Nat
  /-- `NPROC`: how many processors the system has; this machine is one of them (R8). -/
  processors : Nat
  /-- `HTABSIZE_MAX` (R8). -/
  htabSizeMax : Nat
  hasLe : Bool
  hasBe : Bool
  hasPmm : Bool
  hasEar : Bool
  hasRmsc : Bool
  hasMtmsr : Bool
  hasLqstq : Bool
  hasBridge : Bool
  hasTlb : Bool
  hasTlbia : Bool
  hasTlbiel : Bool
  hasTlbsync : Bool
  hasTraceExt : Bool
  largePages : Bool
  hvPolicy : HvPolicy
  badSprPolicy : BadSprPolicy
  pvr : Half
  pir : Half
  /-- `CTRL_0_30`: what bits 0:30 of the CTRL read as (R51, D20). -/
  ctrl030 : BitVec 31
  /-- `TB_FREQ`, in ticks per second (R10, R551). A tick is the model's unit of time, so no rule depends on it. -/
  tbFreq : Option Nat
  /-- `PM_EVENT_TABLE` (R581); of two rows for one counter and code the first counts. -/
  pmEvents : List PmRow
  /-- `STCX_FAIL_DSI`: a Store Conditional that would not store still takes its storage interrupts (R464, R469). -/
  stcxFailDsi : Bool
  /-- After `mtmsrd` has changed MSR[SF] at 2^32 - 4 execution goes on at an undefined address (R143), rather than being a
  violation of R343 that has no successor state. -/
  sfWrapFree : Bool
  /-- The platform says that a power-on reset makes storage undefined (R620). -/
  powerOnStorage : Bool
  /-- HRMOR at power-on (R120). -/
  hrmorReset : Word
  /-- SRR1[42:44] of a System Reset, at power-on and otherwise (R461). -/
  sresetInfoPowerOn : BitVec 3
  sresetInfoOther : BitVec 3
  /-- SRR1 bits of a Machine Check (R462). -/
  mcSrr1Info : Word
  /-- DSISR after a Machine Check; absent: unchanged (R462). -/
  mcDsisr : Option Half
  /-- DAR after a Machine Check; absent: unchanged (R462). -/
  mcDar : Option Word
  traceSrr1Info : Word
  pmSrr1Info : Word
  /-- The real storage that does not exist, the complement of `valid_real` (R196, D30). -/
  absent : List Range
  /-- Real storage treated as non-Guarded in hypervisor real mode, with HAS_RMSC (R160). -/
  rmNonguarded : List Range
  ticksPerStep : Nat
  tbEnabled : Bool
  /-- log2 of the reservation granule's size (Book II; assumption 27). -/
  granuleLog2 : Nat
  /-- log2 of the block that `dcbz` and the other cache instructions name (Book II; assumption 49). -/
  blockLog2 : Nat
  deriving DecidableEq, Repr

/-- The defaults of 92_eei_decisions.md (D1 to D12, section 7). -/
def Params.default : Params where
  realBits := 62
  virtualBits := 80
  largePageBits := 24
  slbEntries := 64
  hrmorBits := 26
  rmlsTable := #v[12, 16, 20, 24, 28, 32, 36, 40]
  rmlrIgnoreHigh := false
  lpidBits := 10
  processors := 1
  htabSizeMax := 28
  hasLe := false
  hasBe := true
  hasPmm := true
  hasEar := true
  hasRmsc := false
  hasMtmsr := true
  hasLqstq := true
  hasBridge := true
  hasTlb := true
  hasTlbia := true
  hasTlbiel := true
  hasTlbsync := true
  hasTraceExt := false
  largePages := true
  hvPolicy := .interrupt
  badSprPolicy := .byCase
  pvr := 0
  pir := 0
  ctrl030 := 0
  tbFreq := none
  pmEvents := []
  stcxFailDsi := true
  sfWrapFree := false
  powerOnStorage := false
  hrmorReset := 0
  sresetInfoPowerOn := 0
  sresetInfoOther := 0
  mcSrr1Info := 0
  mcDsisr := none
  mcDar := none
  traceSrr1Info := 0
  pmSrr1Info := 0
  absent := []
  rmNonguarded := []
  ticksPerStep := 1
  tbEnabled := true
  granuleLog2 := 7
  blockLog2 := 7

namespace Config

/-- The n-th undefined 64-bit value (R19). -/
opaque freeWord : Nat → BitVec 64

/-- The n-th undefined 32-bit value (R19). -/
opaque freeHalf : Nat → BitVec 32

/-- The n-th undefined bit or choice (R19). -/
opaque freeBit : Nat → Bool

/-- The n-th undefined SLB entry, as the 94 bits of Figure 21 (R19, R60, R370). -/
opaque freeSlb : Nat → BitVec 94

/-- The n-th undefined contents of storage: address and byte, the last entry of an address counting (R620). -/
opaque freeStorage : Nat → List (BitVec 62 × BitVec 8)

/-- The n-th free choice of an index (R220). -/
opaque freeIndex : Nat → Nat

end Config

end Sys2Proof
end

