-- ==== Sys2Proof/Machine/State.lean ====
section
/-! DEFINITION. The state of the processor as Book III gives it (10_state.md), as plain data; why a step stops; the state
right after reset (R120, R620). -/

namespace Sys2Proof.Machine

/-- An SLB entry, Figure 21 (R60): 94 bits. -/
structure SlbEntry where
  esid : BitVec 36
  v : Bool
  vsid : BitVec 52
  ks : Bool
  kp : Bool
  n : Bool
  l : Bool
  c : Bool
  deriving DecidableEq, Repr

/-- A TLB entry (R110): its key, virtual page number and page size; the copy of PTE doubleword 1, which holds RPN, AC, R, C,
WIMG, N and PP (R210); the real address of the PTE, at which R and C are recorded. -/
structure TlbEntry where
  vpn : BitVec 80
  large : Bool
  dw1 : Word
  pteAddr : RealAddr
  deriving DecidableEq, Repr

/-- Book I and Book II state that Book III names beside the GPRs (R32, R112; widths 93_implementation_defined.md G2). -/
structure BookI where
  cr : Half
  xer : Word
  lr : Word
  ctr : Word
  fpr : Vector Word 32
  fpscr : Half
  /-- The real address of the reserved granule, if a reservation is held (R112). -/
  reservation : Option RealAddr
  deriving DecidableEq, Repr

/-- The Special Purpose Registers of Book III other than timers and Performance Monitor (R40 to R58). -/
structure Sprs where
  srr0 : Word
  srr1 : Word
  hsrr0 : Word
  hsrr1 : Word
  lpcr : Word
  rmor : Word
  hrmor : Word
  lpidr : Half
  dar : Word
  dsisr : Half
  sprg0 : Word
  sprg1 : Word
  sprg2 : Word
  sprg3 : Word
  hsprg0 : Word
  hsprg1 : Word
  ctrl : Half
  sdr1 : Word
  accr : Word
  dabr : Word
  dabrx : Word
  ear : Half
  deriving DecidableEq, Repr

/-- The timers (R62, R63). -/
structure Timers where
  tb : Word
  dec : Half
  hdec : Half
  purr : Word
  deriving DecidableEq, Repr

/-- The example Performance Monitor's registers (R64); `pmc[i]` is PMC(i+1). -/
structure Perf where
  mmcr0 : Word
  mmcr1 : Word
  mmcra : Word
  pmc : Vector Half 6
  siar : Word
  sdar : Word
  deriving DecidableEq, Repr

/-- What kind of System Reset is presented (R620). -/
inductive ResetKind where
  | powerOn
  | other (recoverable : Bool)
  deriving DecidableEq, Repr

/-- The exceptions that exist independently of the other registers (R113). -/
structure Pending where
  sysReset : Option ResetKind
  /-- A Machine Check exception, with whether the processor is in a recoverable state (R462). -/
  machineCheck : Option Bool
  /-- The level of the External exception (R472). -/
  external : Bool
  deriving DecidableEq, Repr

/-- What an instruction of Books I and II does once Book III has found nothing to stop it. No rule of the spec says it (R5), so
the environment gives it. -/
structure BaseEffect where
  /-- The condition of a Trap instruction holds (R480). -/
  traps : Bool
  /-- A Branch is taken (R612). -/
  taken : Bool
  /-- Where a Branch goes. -/
  nia : Word
  gpr : Vector Word 32
  bookI : BookI
  /-- The bytes that a Store or `dcbz` writes to its operand, the first at the lowest address. -/
  stored : List Byte
  deriving DecidableEq, Repr

/-- What Books I and II make of a word that is none of Book III's. -/
inductive BaseWord where
  /-- An illegal instruction (R301). -/
  | illegal
  | runs (e : BaseEffect)
  deriving DecidableEq, Repr

/-- What the environment does at one step. -/
structure Input where
  /-- Exceptions presented (R461, R462, R472). -/
  sysReset : Option ResetKind
  machineCheck : Option Bool
  external : Option Bool
  /-- TLB entries dropped, by position; another processor's `tlbie` acts so too (R225, R390). -/
  tlbDrop : List Nat
  /-- Whether a successful Page Table search of this step is kept in the TLB (R225). -/
  tlbFill : Bool
  /-- How many ticks follow (R551); absent: `ticksPerStep`. -/
  ticks : Option Nat
  /-- How often each event of Book IV occurs in this step (R581). -/
  events : List (Nat × Half)
  /-- Bytes that another processor or mechanism stores before the step, the first listed first (R7). -/
  stores : List (RealAddr × Byte)
  /-- Book I finds an Effective Address Overflow in the data access of this step (R36). -/
  overflow : Bool
  /-- What the word executed is in Books I and II, if it is none of Book III's and runs. -/
  base : Option BaseWord
  deriving DecidableEq, Repr

/-- The environment that does nothing but the default ticks. -/
def Input.quiet : Input where
  sysReset := none
  machineCheck := none
  external := none
  tlbDrop := []
  tlbFill := false
  ticks := none
  events := []
  stores := []
  overflow := false
  base := none

/-- An access to a real page of 4 KB, with the W and I bits that governed it, and the translation that gave them if address
translation was on (R171); `implicit`: it is an access to the Page Table in performing a translation (R158). -/
structure PageUse where
  page : BitVec 50
  w : Bool
  i : Bool
  entry : Option TlbEntry
  implicit : Bool
  deriving DecidableEq, Repr

/-- The context before an alteration that is not synchronized yet: what it has replaced, of the things that instruction fetch
depends on (R632). -/
structure FetchContext where
  /-- The registers before it, if it changed one. -/
  spr : Option Sprs
  /-- The SLB before it, if it changed it. -/
  slb : Option (List SlbEntry)
  /-- The TLB as it would be without it. -/
  tlb : List TlbEntry
  /-- The bytes of storage that it replaced. -/
  mem : List (RealAddr × Byte)
  deriving DecidableEq, Repr

/-- The model's own fields, not the spec's. -/
structure Run where
  /-- How many undefined values have been drawn (R19). -/
  draws : Nat
  /-- What the environment does at the coming steps, the next first; beyond the list, `Input.quiet`. -/
  inputs : List Input
  /-- Whether a successful Page Table search of this step is kept in the TLB (R225). -/
  tlbFill : Bool
  /-- Whether the data access of this step overflows the effective address space (R36). -/
  overflow : Bool
  /-- Whether this step has taken an interrupt. -/
  trapped : Bool
  /-- The effective address of the storage operand accessed in this step (R594, R613). -/
  opEa : Option Word
  /-- Address of the last completed instruction, the sampled instruction of R593. -/
  lastCia : Word
  /-- MSR in effect when it was executed (R591). -/
  lastMsr : Word
  /-- Its storage operand, the sampled data of R594. -/
  lastEa : Option Word
  /-- Software has armed or disarmed alerts since SIAR, or SDAR, last took a defined value (R593, R594). -/
  siarStale : Bool
  sdarStale : Bool
  /-- The data accesses of this step, and the translated accesses of earlier steps (R171). -/
  uses : List PageUse
  past : List PageUse
  /-- The contexts before the alterations since the last context synchronizing instruction or event (R632). -/
  contexts : List FetchContext
  deriving DecidableEq, Repr

/-- The whole state of the processor. -/
structure State where
  gpr : Vector Word 32
  /-- Address of the next instruction to execute (R31). -/
  nia : Word
  bookI : BookI
  msr : Word
  spr : Sprs
  /-- The SLB (R60); `slb[i]` is entry i, and `SLB_ENTRIES` is its length. -/
  slb : List SlbEntry
  /-- The class last held by an ESID that has left the SLB (the ghost state of R370). -/
  slbLast : List (BitVec 36 × Bool)
  /-- The mappings that a move to the SLB has displaced and no `slbie` or `slbia` has invalidated: lookaside information may
  still hold them (R111, R631 note 13). -/
  slbGone : List SlbEntry
  tlb : List TlbEntry
  /-- Real storage, in canonical form (see `Memory.wf`). -/
  mem : List Host.Cell
  time : Timers
  pm : Perf
  pend : Pending
  /-- The Checkstop state (R114, R463). -/
  checkstop : Bool
  cfg : Params
  run : Run
  deriving DecidableEq, Repr

/-- Why the machine stops with a fault. -/
inductive Fault where
  /-- Raised by `step`: the processor is in Checkstop state and no System Reset is presented (R463). Safe: the spec says that
  instruction processing is suspended. -/
  | checkstop
  deriving DecidableEq, Repr

/-- Why the model gives no successor state. Each names the rule, or the item of 93_implementation_defined.md, that gives the
situation no effect; all are safe: the model stops where the hardware might go on. -/
inductive Refusal where
  /-- Raised by `exec` for an instruction that has no meaning yet. Safe. -/
  | notModelled (mnemonic : String)
  /-- Raised by SLB, TLB and Segment Register instructions: an operand bit that must be zero is not (items 31, 43). Safe. -/
  | reservedOperandBits
  /-- Raised by `slbmte`, `slbmfev`, `slbmfee`: the index is not below the number of SLB entries (item 43). Safe. -/
  | slbIndex
  /-- Raised by `slbmte`: the V bit is 0 (R373, D41). Safe. -/
  | slbmteInvalid
  /-- Raised by `slbie`, `slbmte`: in 32-bit mode the ESID is not in the range 0 to 15 (R370, R373). Safe. -/
  | esidRange
  /-- Raised by `slbie`: the class is not that of the entry that translates or last translated the ESID (item 41). Safe. -/
  | slbClass
  /-- Raised by `tlbie`, `tlbiel` in 32-bit mode and by the Segment Register instructions in 64-bit mode (items 44, 45). Safe. -/
  | wrongMode
  /-- Raised by context-altering instructions, and by a later instruction before the next context synchronizing one: the real
  address of the instruction or of the next one depends on the alteration, or the alteration changes MSR[SF] where R631 note 10
  forbids it (items 34, 35). Safe. -/
  | implicitBranch
  /-- Raised by a translated access: more than one SLB entry translates the address (item 36). Safe. -/
  | duplicateSlb
  /-- Raised by a translated access: matching Page Table Entries that are not identical (item 36). Safe. -/
  | duplicatePte
  /-- Raised by a translated access: the Page Table Entry does not meet the conditions of R210 (item 37). Safe. -/
  | badPte
  /-- Raised by a translated access: W and I are both 1 (item 40). Safe. -/
  | writeThroughInhibited
  /-- Raised by a step: it accesses a real page with other W and I bits than another access that is in force (R171). Safe. -/
  | attributesDiffer
  /-- Raised by `slbmte`: it changes the mapping of an ESID that no `slbie` or `slbia` has invalidated (R631 note 13). Safe. -/
  | slbRemapped
  /-- Raised by a real mode access in hypervisor state: m < 62 and EA[2:63-m] are not zeros (R154). Safe. -/
  | realAddressRange
  /-- Raised by a Page Table search: HTABSIZE exceeds 28 (R215). Safe. -/
  | htabSize
  /-- Raised by a translated access or `slbmte`: L=1 on an implementation without large pages (R205, D12). Safe. -/
  | largePages
  /-- Raised by `mtspr` SDR1 that would alter it while translation is enabled (item 52). Safe. -/
  | sdr1Translating
  /-- Raised by `mtspr` RMOR with an unsupported offset (item 3). Safe. -/
  | rmorUnsupported
  /-- Raised by `mtspr` HRMOR with an unsupported offset (item 3). Safe. -/
  | hrmorUnsupported
  /-- Raised by `mtspr` LPCR with the reserved LPES value 0b10 (R42). Safe. -/
  | lpesReserved
  /-- Raised by a step: LPCR[RMI] is 1 while data address translation is enabled or outside hypervisor state, which software
  must prevent (R158; items 31, 32). Safe. -/
  | realModeInhibited
  /-- Raised by `mtspr` and `mfspr` of an undefined number, by the policy `alternative` of R342 (item 30). Safe. -/
  | undefinedSpr
  /-- Raised by an access in Little-Endian mode, which no document of the spec defines (R131, N5). Safe. -/
  | littleEndian
  /-- Raised by `eciwx` and `ecowx`: MSR[DR]=0 (R416). Safe. -/
  | externalControlRealMode
  /-- Raised by `eciwx` and `ecowx`: the transfer is the device's business, and the environment gives none (R416, N8). Safe. -/
  | externalControlDevice
  /-- Raised by `step`: Book III stops the word nowhere, its effect is that of Books I and II, which are outside the spec, and
  the environment gives none (R286, R5). Safe. -/
  | outsideBookIII (word : Half)
  deriving DecidableEq, Repr

/-- An invalid SLB entry with every field zero. -/
def SlbEntry.zero : SlbEntry := ⟨0, false, 0, false, false, false, false, false⟩

/-- The machine right after a power-on System Reset (R120, R620): SF=1, HV=1, execution at 0x100, HRMOR from its parameter;
every other register the value that notes/assumptions/2.md names. -/
def State.reset : State where
  gpr := Vector.replicate 32 0
  nia := 0x100
  bookI := { cr := 0, xer := 0, lr := 0, ctr := 0, fpr := Vector.replicate 32 0, fpscr := 0, reservation := none }
  msr := 0x9000000000000000
  spr := { srr0 := 0, srr1 := 0, hsrr0 := 0, hsrr1 := 0, lpcr := 0, rmor := 0, hrmor := Params.default.hrmorReset,
           lpidr := 0, dar := 0, dsisr := 0, sprg0 := 0, sprg1 := 0, sprg2 := 0, sprg3 := 0, hsprg0 := 0, hsprg1 := 0,
           ctrl := 0, sdr1 := 0, accr := 0, dabr := 0, dabrx := 0, ear := 0 }
  slb := List.replicate Params.default.slbEntries SlbEntry.zero
  slbLast := []
  slbGone := []
  tlb := []
  mem := []
  time := { tb := 0, dec := 0, hdec := 0, purr := 0 }
  pm := { mmcr0 := 0, mmcr1 := 0, mmcra := 0, pmc := Vector.replicate 6 0, siar := 0, sdar := 0 }
  pend := { sysReset := none, machineCheck := none, external := false }
  checkstop := false
  cfg := Params.default
  run := { draws := 0, inputs := [], tlbFill := false, overflow := false, trapped := false, opEa := none,
           lastCia := 0, lastMsr := 0x9000000000000000, lastEa := none, siarStale := false, sdarStale := false,
           uses := [], past := [], contexts := [] }

end Sys2Proof.Machine
end

