-- ==== Sys2Proof/Machine/Operands.lean ====
section
/-! DEFINITION. Operands: General Purpose Registers, effective addresses, instruction addresses, the named bits of the MSR and
the LPCR (R12, R13, R30, R31, R36, R42, R141, R284). -/

namespace Sys2Proof.Machine

/-! ### Named bits of the MSR (R36, 10_state.md) -/

/-- MSR[SF], 64-bit mode. -/
def sf (m : Word) : Bool := bit m 0
/-- MSR[HV]. -/
def hv (m : Word) : Bool := bit m 3
/-- MSR[EE]. -/
def ee (m : Word) : Bool := bit m 48
/-- MSR[PR], problem state. -/
def pr (m : Word) : Bool := bit m 49
/-- MSR[FP]. -/
def fp (m : Word) : Bool := bit m 50
/-- MSR[ME]. -/
def me (m : Word) : Bool := bit m 51
/-- MSR[FE0]. -/
def fe0 (m : Word) : Bool := bit m 52
/-- MSR[SE]. -/
def se (m : Word) : Bool := bit m 53
/-- MSR[BE]. -/
def be (m : Word) : Bool := bit m 54
/-- MSR[FE1]. -/
def fe1 (m : Word) : Bool := bit m 55
/-- MSR[IR]. -/
def ir (m : Word) : Bool := bit m 58
/-- MSR[DR]. -/
def dr (m : Word) : Bool := bit m 59
/-- MSR[PMM]. -/
def pmm (m : Word) : Bool := bit m 61
/-- MSR[RI]. -/
def ri (m : Word) : Bool := bit m 62
/-- MSR[LE]. -/
def le (m : Word) : Bool := bit m 63

/-- Problem state, MSR[PR]=1 (R37). -/
def State.problem (s : State) : Bool := pr s.msr
/-- Hypervisor state, MSR[HV,PR]=0b10 (R37). -/
def State.hypervisor (s : State) : Bool := hv s.msr && !pr s.msr
/-- Privileged but non-hypervisor state, MSR[HV,PR]=0b00 (R37). -/
def State.supervisor (s : State) : Bool := !hv s.msr && !pr s.msr

/-! ### Named fields of the LPCR (R42, 10_state.md) -/

/-- LPCR[RMLS]. -/
def rmls (l : Word) : BitVec 3 := field l 35 3
/-- LPCR[ILE]. -/
def ile (l : Word) : Bool := bit l 38
/-- LPES0. -/
def lpes0 (l : Word) : Bool := bit l 60
/-- LPES1. -/
def lpes1 (l : Word) : Bool := bit l 61
/-- LPCR[RMI]. -/
def rmi (l : Word) : Bool := bit l 62
/-- LPCR[HDICE]. -/
def hdice (l : Word) : Bool := bit l 63

/-- The limit that the RMLR represents (R43). -/
def rmlr (c : Params) (l : Word) : Nat := 2 ^ c.rmlsTable[(rmls l).toNat]'(rmls l).isLt

/-! ### What the parameters give (R8) -/

/-- log2 of the 4 KB page size (R130). -/
def smallPageBits : Nat := 12

/-- log2 of the page size (R205). -/
def pageBits (c : Params) (large : Bool) : Nat := if large then c.largePageBits else smallPageBits

/-- `s`, log2 of the RMOR granularity: the least exponent of `RMLS_TABLE` (R8, R44). -/
def rmorBits (c : Params) : Nat := c.rmlsTable.toList.foldl min 62

/-- The low-order `m` bits of a real address (R8). -/
def realMask (c : Params) : Word := (1#64 <<< c.realBits) - 1

/-- The bits that the image of a VSID may have on an implementation with virtual addresses of `n` bits: all but the high-order
80 - n (R8, R374). -/
def vsidMask (c : Params) : Word := (1#64 <<< (c.virtualBits - 16)) - 1

/-! ### General Purpose Registers (R30) -/

/-- `GPR[r]`. -/
def State.readGpr (s : State) (r : Reg) : Word := s.gpr[r.toNat]'r.isLt

/-- `GPR[r] <- v`. -/
def State.setGpr (s : State) (r : Reg) (v : Word) : State := { s with gpr := s.gpr.set r.toNat v r.isLt }

/-- `(RA|0)` (R13). -/
def State.readGpr0 (s : State) (ra : Reg) : Word := if ra = 0 then 0 else s.readGpr ra

/-! ### Addresses -/

/-- An effective address as storage sees it: in 32-bit mode the high-order 32 bits are zeros (R141). -/
def ea32 (msr ea : Word) : Word := if sf msr then ea else zext (low ea)

/-- The current instruction address: NIA as the fetch sees it, bits 62:63 zero (R31, R141). -/
def State.cia (s : State) : Word := ea32 s.msr s.nia &&& ~~~(3#64)

/-- `NIA <- CIA + 4`, modulo 2^64 (R31, D17). -/
def State.advance (s : State) : State := { s with nia := s.cia + 4 }

/-- The effective address of the byte `n` bytes after another, in the mode of the MSR (R141). -/
def eaAfter (msr ea : Word) (n : Nat) : Word := ea32 msr (ea + BitVec.ofNat 64 n)

/-- The effective address of `lq`: `(RA|0) + EXTS(DQ || 0b0000)` (R284, R410). -/
def lqEa (s : State) (dq : BitVec 12) (ra : Reg) : Word :=
  ea32 s.msr (s.readGpr0 ra + (dq ++ 0#4).signExtend 64)

/-- The effective address of `stq`: `(RA|0) + EXTS(DS || 0b00)` (R284, R411). -/
def stqEa (s : State) (ds : BitVec 14) (ra : Reg) : Word :=
  ea32 s.msr (s.readGpr0 ra + (ds ++ 0#2).signExtend 64)

/-- EA[60:63] = 0: a multiple of 16 (R410, R411). -/
def aligned16 (ea : Word) : Bool := field ea 60 4 == 0

/-- `(RB)[32:35]`, the Segment Register number of `mtsrin` and `mfsrin` (R427, R429). -/
def srOfAddress (b : Word) : BitVec 4 := field b 32 4

end Sys2Proof.Machine
end

