-- ==== Sys2Proof/Machine/Flags.lean ====
section
/-! DEFINITION. The status an instruction or an interrupt computes: which bits each register stores (R17, D16), the MSR after
an interrupt (R452, R453), after `rfid`, `hrfid`, `mtmsrd`, `mtmsr` (R321, R322, R343, R346), SRR1 (R451), DSISR of an Alignment
interrupt (R475). -/

namespace Sys2Proof.Machine

/-! ### Stored bits of the System Registers (R17, D16, and the register's own rule) -/

/-- The MSR bits that are state (R36). -/
def msrMask (c : Params) : Word :=
  0x900000000000FD32 ||| (if c.hasBe then 0x200 else 0) ||| (if c.hasPmm then 4 else 0) ||| (if c.hasLe then 1 else 0)

/-- LPCR: RMLS, LPES, RMI, HDICE, and ILE with HAS_LE (R42). -/
def lpcrMask (c : Params) : Word := 0x1C00000F ||| (if c.hasLe then 0x2000000 else 0)

/-- RMOR and HRMOR, bits 2:63 (R44, R45). -/
def rmorMask : Word := 0x3FFFFFFFFFFFFFFF
/-- SDR1, bits 2:45 and 59:63, of which bits 2:63-m are reserved (R54). -/
def sdr1Mask (c : Params) : Word := (0x3FFFFFFFFFFC0000 &&& realMask c) ||| 0x1F
/-- ACCR, bits 62:63 (R55). -/
def accrMask : Word := 3
/-- DABRX, bits 60:63 (R57). -/
def dabrxMask : Word := 0xF
/-- EAR, bits 0 and 26:31 (R58). All six bits of the Resource ID are supported (R416 leaves the width open; DESIGN CHOICE,
assumption 58). -/
def earMask : Half := 0x8000003F
/-- CTRL, bit 31 (R51, D20). -/
def ctrlMask : Half := 1
/-- XER, bits 32:34 and 57:63 (93_implementation_defined.md G2). -/
def xerMask : Word := 0xE000007F
/-- MMCR0, the bits that are not reserved (R586). -/
def mmcr0Mask : Word := 0xFFC0F8F3
/-- MMCRA, the bits that are not reserved (R589). -/
def mmcraMask : Word := 0xFFFFFFF1

/-! ### Interrupt kinds (R452, R456) -/

/-- The fifteen interrupts; a System Call carries its level (R452). -/
inductive IntKind where
  | systemReset
  | machineCheck
  | dataStorage
  | dataSegment
  | instStorage
  | instSegment
  | external
  | alignment
  | program
  | fpUnavailable
  | decrementer
  | hypDecrementer
  | systemCall (lev : Bool)
  | trace
  | perfMonitor
  deriving DecidableEq, Repr

/-- The effective address of the interrupt vector, Figure 36 (R456). -/
def vector : IntKind → Word
  | .systemReset => 0x100
  | .machineCheck => 0x200
  | .dataStorage => 0x300
  | .dataSegment => 0x380
  | .instStorage => 0x400
  | .instSegment => 0x480
  | .external => 0x500
  | .alignment => 0x600
  | .program => 0x700
  | .fpUnavailable => 0x800
  | .decrementer => 0x900
  | .hypDecrementer => 0x980
  | .systemCall _ => 0xC00
  | .trace => 0xD00
  | .perfMonitor => 0xF00

/-- The interrupt uses HSRR0 and HSRR1 (R450, R487). -/
def IntKind.usesHsrr : IntKind → Bool
  | .hypDecrementer => true
  | .systemReset | .machineCheck | .dataStorage | .dataSegment | .instStorage | .instSegment | .external | .alignment
  | .program | .fpUnavailable | .decrementer | .systemCall _ | .trace | .perfMonitor => false

/-- The HV column of Figure 35 evaluates to 'set to 1' (R452, D45). -/
def setsHv (lpcr : Word) : IntKind → Bool
  | .systemReset | .machineCheck | .hypDecrementer => true
  | .external => !lpes0 lpcr
  | .systemCall lev => lev || !lpes1 lpcr
  | .dataStorage | .dataSegment | .instStorage | .instSegment | .alignment | .program | .fpUnavailable | .decrementer
  | .trace | .perfMonitor => !lpes1 lpcr

/-- A bit at its place in a 64-bit register, else 0. -/
def bitIf (i : Nat) (b : Bool) : Word := if b then mask i i else 0

/-- The MSR after an interrupt, Figure 35 (R453). -/
def newMsr (c : Params) (lpcr : Word) (k : IntKind) (old : Word) : Word :=
  bitIf 0 true
  ||| bitIf 3 (setsHv lpcr k || hv old)
  ||| bitIf 51 (k != .machineCheck && me old)
  ||| bitIf 62 (k == .hypDecrementer && ri old)
  ||| bitIf 63 (c.hasLe && !setsHv lpcr k && ile lpcr)

/-- Bits 33:36 and 42:47, which an interrupt loads with information (R450). -/
def infoMask : Word := 0x783F0000

/-- SRR1 or HSRR1 as an interrupt sets it (R450, R451). -/
def srr1Of (old info : Word) : Word := insertBits old info infoMask

/-- SRR1 bits of a Program interrupt (R481). -/
inductive ProgramKind where
  /-- Floating-Point Enabled Exception after a change of FE0, FE1: bits 43 and 47 (R482). -/
  | fpEnabled
  /-- Floating-Point Enabled Exception of a floating-point instruction, reported at that instruction: bit 43 (R482). -/
  | fpPrecise
  | illegal
  | privileged
  | trap
  deriving DecidableEq, Repr

/-- The information bits of a Program interrupt (R481, R482). -/
def programInfo : ProgramKind → Word
  | .fpEnabled => 0x110000
  | .fpPrecise => 0x100000
  | .illegal => 0x80000
  | .privileged => 0x40000
  | .trap => 0x20000

/-! ### The MSR after the instructions that write it -/

/-- The three bits that PR=1 forces, and SF: `MSR[0] <- x[0]|x[1]`, `MSR[48,58,59] <- x[48,58,59]|x[49]` (R321, R322, R343). -/
def forceBits (m x : Word) : Word :=
  setBit (setBit (setBit m 48 (bit x 48 || bit x 49)) 58 (bit x 58 || bit x 49)) 59 (bit x 59 || bit x 49)

/-- The MSR after `rfid`, from the MSR before and SRR1 (R321). -/
def rfidMsr (c : Params) (old srr1 : Word) : Word :=
  let m := insertBits old srr1 (mask 1 2 ||| mask 4 32 ||| mask 37 41 ||| mask 49 50 ||| mask 52 57 ||| mask 60 63)
  let m := setBit m 0 (bit srr1 0 || bit srr1 1)
  let m := setBit m 51 (if hv old then bit srr1 51 else bit old 51)
  let m := setBit m 3 (hv old && bit srr1 3)
  forceBits m srr1 &&& msrMask c

/-- The MSR after `hrfid`, from the MSR before and HSRR1 (R322). -/
def hrfidMsr (c : Params) (old hsrr1 : Word) : Word :=
  let m := insertBits old hsrr1 (mask 1 32 ||| mask 37 41 ||| mask 49 57 ||| mask 60 63)
  let m := setBit m 0 (bit hsrr1 0 || bit hsrr1 1)
  forceBits m hsrr1 &&& msrMask c

/-- The MSR after `mtmsrd` with L=0 (R343). -/
def mtmsrdMsr (c : Params) (old r : Word) : Word :=
  let m := insertBits old r (mask 1 2 ||| mask 4 47 ||| mask 49 50 ||| mask 52 57 ||| mask 60 63)
  let m := setBit m 0 (bit r 0 || bit r 1)
  forceBits m r &&& msrMask c

/-- The MSR after `mtmsr` with L=0 (R346). -/
def mtmsrMsr (c : Params) (old r : Word) : Word :=
  let m := insertBits old r (mask 32 47 ||| mask 49 50 ||| mask 52 57 ||| mask 60 63)
  forceBits m r &&& msrMask c

/-- The MSR after `mtmsrd` or `mtmsr` with L=1: only EE and RI (R343, R346). -/
def mtmsrL1 (old r : Word) : Word := insertBits old r (mask 48 48 ||| mask 62 62)

/-! ### DSISR of an Alignment interrupt (R475) -/

/-- For an X-form instruction word; `ra` is what bits 27:31 receive (R475). -/
def alignDsisrX (w : Half) (ra : BitVec 5) : Half :=
  (ifield w 29 2).setWidth 32 <<< 15 ||| hbitIf 17 (ibit w 25) ||| (ifield w 21 4).setWidth 32 <<< 10
  ||| (ifield w 6 5).setWidth 32 <<< 5 ||| ra.setWidth 32

/-- For a D-form instruction word, and by D44 a DQ-form one (R475). -/
def alignDsisrD (w : Half) (ra : BitVec 5) : Half :=
  hbitIf 17 (ibit w 5) ||| (ifield w 1 4).setWidth 32 <<< 10 ||| (ifield w 6 5).setWidth 32 <<< 5 ||| ra.setWidth 32

/-- For a DS-form instruction word (R475). -/
def alignDsisrDs (w : Half) (ra : BitVec 5) : Half :=
  (ifield w 30 2).setWidth 32 <<< 18 ||| alignDsisrD w ra

/-! ### Floating-Point Enabled Exception (R480, R482) -/

/-- FPSCR[FEX] (93_implementation_defined.md G2). -/
def fex (fpscr : Half) : Bool := hbit fpscr 1

/-- `(MSR[FE0] | MSR[FE1]) & FPSCR[FEX]` (R480). -/
def fpEnabled (msr : Word) (fpscr : Half) : Bool := (fe0 msr || fe1 msr) && fex fpscr

end Sys2Proof.Machine
end

