-- ==== Sys2Proof/Machine/Ops.lean ====
section
/-! DEFINITION. The named operations over the state: real storage (R130, R131), undefined values (R19), taking an interrupt
(R450) and returning from one (R321, R322), each interrupt's own registers (60_exceptions.md section 3), reset (R620). -/

namespace Sys2Proof.Machine

/-! ### Real storage -/

/-- What a byte of real storage that is not listed reads as (assumption 4). -/
def Memory.unlisted : Byte := 0

/-- The byte at a real address. -/
def Memory.read : List Host.Cell → Nat → Byte
  | [], _ => Memory.unlisted
  | (b, v) :: t, a => if b = a then v else Memory.read t a

/-- The storage with no entry for an address. -/
def Memory.erase (m : List Host.Cell) (a : Nat) : List Host.Cell := m.filter fun c => c.1 != a

/-- The storage with an entry added before the first entry of a higher address. -/
def Memory.put : List Host.Cell → Nat → Byte → List Host.Cell
  | [], a, v => [(a, v)]
  | (b, w) :: t, a, v => if a < b then (a, v) :: (b, w) :: t else (b, w) :: Memory.put t a v

/-- The storage with a byte written. -/
def Memory.write (m : List Host.Cell) (a : Nat) (v : Byte) : List Host.Cell :=
  if v = Memory.unlisted then Memory.erase m a else Memory.put (Memory.erase m a) a v

/-- The storage with bytes written, the first listed first. -/
def Memory.writeAll (m : List Host.Cell) (cs : List (RealAddr × Byte)) : List Host.Cell :=
  cs.foldl (fun m c => Memory.write m c.1.toNat c.2) m

/-- The canonical form: addresses strictly rise and no entry equals what an unlisted address reads as. -/
def Memory.wf : List Host.Cell → Bool
  | [] => true
  | [c] => c.2 != Memory.unlisted
  | c :: d :: t => c.2 != Memory.unlisted && decide (c.1 < d.1) && Memory.wf (d :: t)

/-- The byte of real storage at a real address. -/
def State.byte (s : State) (a : RealAddr) : Byte := Memory.read s.mem a.toNat

/-- One byte stored at a real address. -/
def State.setByte (s : State) (a : RealAddr) (v : Byte) : State := { s with mem := Memory.write s.mem a.toNat v }

/-- The doubleword at a real address, the byte at the lowest address most significant (R131, D23). -/
def State.readDw (s : State) (a : RealAddr) : Word :=
  s.byte a ++ s.byte (a + 1) ++ s.byte (a + 2) ++ s.byte (a + 3)
    ++ s.byte (a + 4) ++ s.byte (a + 5) ++ s.byte (a + 6) ++ s.byte (a + 7)

/-- The word at a real address (R131, D23). -/
def State.readWord (s : State) (a : RealAddr) : Half :=
  wordOfBytes (s.byte a) (s.byte (a + 1)) (s.byte (a + 2)) (s.byte (a + 3))

/-- `x[8i : 8i+7]`, byte i of a doubleword counted from its most significant (R131). -/
def byteOf (x : Word) (i : Nat) : Byte := x.extractLsb' (56 - 8 * i) 8

/-- The storage with the eight bytes of a doubleword written, the most significant at the lowest address (R131, D23). -/
def Memory.writeDw (m : List Host.Cell) (a : RealAddr) (x : Word) : List Host.Cell :=
  let m := Memory.write m a.toNat (byteOf x 0)
  let m := Memory.write m (a + 1).toNat (byteOf x 1)
  let m := Memory.write m (a + 2).toNat (byteOf x 2)
  let m := Memory.write m (a + 3).toNat (byteOf x 3)
  let m := Memory.write m (a + 4).toNat (byteOf x 4)
  let m := Memory.write m (a + 5).toNat (byteOf x 5)
  let m := Memory.write m (a + 6).toNat (byteOf x 6)
  Memory.write m (a + 7).toNat (byteOf x 7)

/-- A doubleword stored at a real address (R131, D23). -/
def State.writeDw (s : State) (a : RealAddr) (x : Word) : State := { s with mem := Memory.writeDw s.mem a x }

/-- Some of the `n` bytes from a real address do not exist: the platform lacks them, or they lie beyond 2^m (R196, D30, R8). -/
def absentHit (c : Params) (a : RealAddr) (n : Nat) : Bool :=
  decide (2 ^ c.realBits < a.toNat + n) || c.absent.any fun r => decide (r.base < a.toNat + n) && decide (a.toNat < r.base + r.size)

/-! ### Undefined values (R19) -/

/-- The state after `k` undefined values have been drawn: the next ones are independent of them. -/
def State.drawn (s : State) (k : Nat) : State := { s with run := { s.run with draws := s.run.draws + k } }

/-- The SLB entry of 94 bits, Figure 21 (R60). -/
def SlbEntry.ofBits (x : BitVec 94) : SlbEntry where
  esid := x.extractLsb' 58 36
  v := x.getLsbD 57
  vsid := x.extractLsb' 5 52
  ks := x.getLsbD 4
  kp := x.getLsbD 3
  n := x.getLsbD 2
  l := x.getLsbD 1
  c := x.getLsbD 0

/-- An invalid SLB entry whose other fields are undefined (R370, R371). -/
def SlbEntry.invalid (n : Nat) : SlbEntry := { SlbEntry.ofBits (Config.freeSlb n) with v := false }

/-! ### Taking an interrupt, and returning from one -/

/-- Interrupt processing (R450): the address and the MSR are saved, the MSR becomes that of Figure 35, execution goes on at
the vector. `info` supplies bits 33:36 and 42:47 of SRR1 or HSRR1. -/
def State.takeInterrupt (s : State) (k : IntKind) (addr info : Word) : State :=
  { s with
    nia := vector k
    msr := newMsr s.cfg s.spr.lpcr k s.msr
    spr := if k.usesHsrr then { s.spr with hsrr0 := ea32 s.msr addr, hsrr1 := srr1Of s.msr info }
           else { s.spr with srr0 := ea32 s.msr addr, srr1 := srr1Of s.msr info }
    run := { s.run with trapped := true } }

/-- Return from an interrupt: the MSR is replaced and execution goes on at bits 0:61 of the saved address, as the new MSR[SF]
interprets it (R321, R322). -/
def State.returnTo (s : State) (m addr : Word) : State := { s with msr := m, nia := ea32 m addr &&& ~~~(3#64) }

/-- A Program interrupt caused by the current instruction (R481). -/
def State.program (s : State) (k : ProgramKind) : State := s.takeInterrupt .program s.cia (programInfo k)

/-- A Data Storage interrupt (R465); bit 15 of the DSISR is undefined. -/
def State.dataStorage (s : State) (dsisr : Half) (dar : Word) : State :=
  { s with spr := { s.spr with dsisr := dsisr ||| hbitIf 15 (Config.freeBit s.run.draws), dar := dar } }.drawn 1
    |>.takeInterrupt .dataStorage s.cia 0

/-- A Data Segment interrupt (R469, R470); the DSISR is undefined. -/
def State.dataSegment (s : State) (dar : Word) : State :=
  { s with spr := { s.spr with dsisr := Config.freeHalf s.run.draws, dar := dar } }.drawn 1
    |>.takeInterrupt .dataSegment s.cia 0

/-- An Instruction Storage interrupt (R468); bit 47 of SRR1 is undefined. -/
def State.instStorage (s : State) (info : Word) : State :=
  s.drawn 1 |>.takeInterrupt .instStorage s.cia (info ||| bitIf 47 (Config.freeBit s.run.draws))

/-- An Instruction Segment interrupt (R471). -/
def State.instSegment (s : State) : State := s.takeInterrupt .instSegment s.cia 0

/-- An Alignment interrupt (R475, R476). -/
def State.alignment (s : State) (dsisr : Half) (dar : Word) : State :=
  { s with spr := { s.spr with dsisr := dsisr, dar := dar } }.takeInterrupt .alignment s.cia 0

/-- The Checkstop state is entered (R463). -/
def State.enterCheckstop (s : State) : State := { s with checkstop := true, run := { s.run with trapped := true } }

/-- A Machine Check interrupt, or Checkstop when MSR[ME]=0 (R462). -/
def State.machineCheck (s : State) (recoverable : Bool) : State :=
  if me s.msr then
    let t := { s with spr := { s.spr with dsisr := s.cfg.mcDsisr.getD s.spr.dsisr, dar := s.cfg.mcDar.getD s.spr.dar } }
    let u := t.takeInterrupt .machineCheck s.cia s.cfg.mcSrr1Info
    { u with spr := { u.spr with srr1 := setBit u.spr.srr1 62 (recoverable && ri s.msr) } }
  else s.enterCheckstop

/-! ### Reset -/

/-- A value at bits 42:44 (R461). -/
def resetInfo (x : BitVec 3) : Word := x.setWidth 64 <<< 19

/-- An undefined TLB entry (R120). -/
def TlbEntry.undefined (n : Nat) : TlbEntry where
  vpn := (Config.freeHalf n).setWidth 16 ++ Config.freeWord (2 * n)
  large := Config.freeBit n
  dw1 := Config.freeWord (2 * n + 1)
  pteAddr := (Config.freeSlb n).setWidth 62

/-- Every register, SLB entry and TLB entry takes an undefined value, of the bits it stores (R620, R120, D22); HRMOR takes
`HRMOR_RESET`; storage is kept unless the platform says that it is undefined too (R621). -/
def State.undefinedRegisters (s : State) : State :=
  let n := s.run.draws
  let w (i : Nat) := Config.freeWord (n + i)
  let h (i : Nat) := Config.freeHalf (n + i)
  { s with
    gpr := Vector.ofFn fun i => w i.val
    nia := w 64 &&& ~~~(3#64)
    bookI := { cr := h 0, xer := w 65 &&& xerMask, lr := w 66, ctr := w 67, fpr := Vector.ofFn fun i => w (32 + i.val),
               fpscr := h 1,
               reservation := if Config.freeBit n then some ((w 68).setWidth 62) else none }
    msr := forceBits (w 69) (w 69) &&& msrMask s.cfg
    spr := { srr0 := w 70, srr1 := w 71, hsrr0 := w 72, hsrr1 := w 73, lpcr := w 74 &&& lpcrMask s.cfg,
             rmor := w 75 &&& rmorMask, hrmor := s.cfg.hrmorReset &&& rmorMask, lpidr := h 2, dar := w 76, dsisr := h 3,
             sprg0 := w 77, sprg1 := w 78, sprg2 := w 79, sprg3 := w 80, hsprg0 := w 81, hsprg1 := w 82,
             ctrl := h 4 &&& ctrlMask, sdr1 := w 83 &&& sdr1Mask s.cfg, accr := w 84 &&& accrMask, dabr := w 85,
             dabrx := w 86 &&& dabrxMask, ear := h 5 &&& earMask }
    slb := (List.range s.cfg.slbEntries).map fun i => SlbEntry.ofBits (Config.freeSlb (n + i))
    slbLast := []
    slbGone := []
    tlb := (List.range (Config.freeIndex n)).map fun i => TlbEntry.undefined (n + s.cfg.slbEntries + 128 + i)
    mem := if s.cfg.powerOnStorage then Memory.writeAll [] (Config.freeStorage n) else s.mem
    time := { tb := w 87, dec := h 6, hdec := h 7, purr := w 88 }
    pm := { mmcr0 := w 89 &&& mmcr0Mask, mmcr1 := w 90, mmcra := w 91 &&& mmcraMask,
            pmc := Vector.ofFn fun i => h (8 + i.val), siar := w 92, sdar := w 93 }
    run := { s.run with draws := n + 2 * (n + s.cfg.slbEntries + 128 + Config.freeIndex n) + 2, lastCia := w 94,
                        lastMsr := w 95, lastEa := none, past := [], contexts := [] } }

/-- A System Reset interrupt (R461, R620): power-on makes every register undefined first; SRR1[62] tells whether the
interrupt is recoverable; the Checkstop state is left and the exceptions of earlier instructions are lost (R500). -/
def State.systemReset (s : State) (k : ResetKind) : State :=
  let u := { s with checkstop := false,
                    pend := { sysReset := none, machineCheck := none, external := s.pend.external } }
  match k with
  | .powerOn =>
    let u := u.undefinedRegisters
    let t := u.takeInterrupt .systemReset u.cia (resetInfo s.cfg.sresetInfoPowerOn)
    let srr1 := setBit (insertBits u.spr.srr1 (resetInfo s.cfg.sresetInfoPowerOn) (mask 42 44)) 62 false
    { t with spr := { t.spr with srr0 := u.spr.srr0, srr1 := srr1 } }
  | .other rec =>
    let t := u.takeInterrupt .systemReset s.cia (resetInfo s.cfg.sresetInfoOther)
    { t with spr := { t.spr with
        srr1 := setBit t.spr.srr1 62 (rec && !s.checkstop && s.pend.machineCheck.isNone && ri s.msr) } }

/-! ### Results -/

/-- What a step or an instruction answers. -/
abbrev Result := Host.Outcome State Fault Refusal

/-- What an access to storage answers: its result and the state after it, the state after an interrupt it has taken, or a
refusal. -/
inductive Access (α : Type) where
  | ok (a : α) (s : State)
  | trap (s : State)
  | refuse (r : Refusal)
  deriving DecidableEq, Repr

/-- The instruction's answer when an access precedes the rest of its effect. -/
def Access.andThen {α : Type} (x : Access α) (f : α → State → Result) : Result :=
  match x with
  | .ok a s => f a s
  | .trap s => .next s
  | .refuse r => .refused r

/-- The instruction takes a Program interrupt. -/
def State.raise (s : State) (k : ProgramKind) : Result := .next (s.program k)

/-- A privileged instruction: in problem state a Privileged Instruction interrupt, else the effect (R481, R302). -/
def State.privileged (s : State) (f : Result) : Result := if s.problem then s.raise .privileged else f

/-- An instruction executed only in hypervisor state: in any other state a Privileged Instruction interrupt (D35). -/
def State.hypervisorOnly (s : State) (f : Result) : Result := if s.hypervisor then f else s.raise .privileged

/-- An optional instruction: where the option is absent, an Illegal Instruction interrupt (R300). -/
def State.optional (s : State) (has : Bool) (f : Result) : Result := if has then f else s.raise .illegal

/-- A condition that software must meet: where it fails, no successor state (93_implementation_defined.md). -/
def require (cond : Bool) (r : Refusal) (f : Result) : Result := if cond then f else .refused r

end Sys2Proof.Machine
end

