-- ==== Sys2Proof/Machine/Translate.lean ====
section
/-! DEFINITION. From an effective address to real storage: real addressing mode (R150), the SLB (R203), the TLB and the Page
Table (R208 to R225), protection (R230 to R233), Reference and Change recording (R175 to R179), instruction fetch (R468, R471),
and what alters it (R142, R632). -/

namespace Sys2Proof.Machine

/-! ### Real addressing mode (R150 to R160) -/

/-- The real address in real addressing mode, or none where Figure 31 gives no access (R150, R159). -/
def State.realMode (s : State) (ea : Word) : Option RealAddr :=
  let a : RealAddr := ea.setWidth 62
  if hv s.msr then
    if bit ea 0 then some a else some (a ||| s.spr.hrmor.setWidth 62)
  else if !lpes1 s.spr.lpcr then none
  else if rmlr s.cfg s.spr.lpcr ≤ (if s.cfg.rmlrIgnoreHigh then a &&& (realMask s.cfg).setWidth 62 else a).toNat then none
  else some ((a ||| s.spr.rmor.setWidth 62) &&& (realMask s.cfg).setWidth 62)

/-- In hypervisor state, EA[2:63-m] are zeros where they are offset by the HRMOR (R154). -/
def State.realRange (s : State) (ea : Word) : Bool :=
  !hv s.msr || bit ea 0 || (ea.setWidth 62 &&& ~~~(realMask s.cfg).setWidth 62) == (0 : RealAddr)

/-- The byte at a real address is non-Guarded by the Real Mode Storage Control facility (R160). -/
def nonguarded (c : Params) (a : Nat) : Bool :=
  c.hasRmsc && c.rmNonguarded.any fun r => decide (r.base ≤ a) && decide (a < r.base + r.size)

/-- All of the `n` bytes from a real address are non-Guarded by that facility (R160). -/
def allNonguarded (c : Params) (ra : RealAddr) (n : Nat) : Bool :=
  (List.range n).all fun i => nonguarded c (ra.toNat + i)

/-- An access to the `n` bytes from a real address is Guarded in real addressing mode: in hypervisor state, but for storage that
Real Mode Storage Control makes non-Guarded (R158, R160, R165); an operand that is non-Guarded only in part is Guarded (the spec
is silent; DESIGN CHOICE, assumption 57). -/
def State.realGuarded (s : State) (ra : RealAddr) (n : Nat) : Bool := hv s.msr && !allNonguarded s.cfg ra n

/-- An access to the `n` bytes from a real address is Caching Inhibited in real addressing mode: in hypervisor state when
LPCR[RMI]=1, whether or not Real Mode Storage Control is provided (R158; for `lq` and `stq` see `State.realViolation`). An operand
whose bytes are all non-Guarded by that facility is so or not (R160); one that is non-Guarded only in part is so (the spec is
silent; DESIGN CHOICE, assumption 57). -/
def State.realInhibited (s : State) (ra : RealAddr) (n : Nat) : Bool :=
  hv s.msr && rmi s.spr.lpcr
    && (!allNonguarded s.cfg ra n || Config.freeBit (s.run.draws + 1))

/-- LPCR[RMI] is 0 where it must be: whenever data address translation is enabled and outside hypervisor state (R158). -/
def State.rmiProper (s : State) : Bool := !rmi s.spr.lpcr || (s.hypervisor && !dr s.msr)

/-! ### Effective to virtual (R202 to R205) -/

/-- The SLB entries that translate an effective address (R203). -/
def State.slbMatches (s : State) (ea : Word) : List SlbEntry :=
  s.slb.filter fun e => e.v && e.esid == field ea 0 36

/-- The virtual address: `VSID || EA[36:63]` (R204). -/
def virtualAddress (e : SlbEntry) (ea : Word) : BitVec 80 := e.vsid ++ field ea 36 28

/-- The virtual page number, VA[0:79-p] (R204). -/
def vpnOf (c : Params) (large : Bool) (va : BitVec 80) : BitVec 80 := va >>> pageBits c large

/-! ### Virtual to real (R208 to R225) -/

/-- SDR1[HTABSIZE] (R54). -/
def htabSize (sdr1 : Word) : Nat := (field sdr1 59 5).toNat

/-- The primary hash, 39 bits (R216). -/
def primaryHash (c : Params) (large : Bool) (va : BitVec 80) : BitVec 39 :=
  va.extractLsb' 28 39 ^^^ (va.setWidth 28 >>> pageBits c large).setWidth 39

/-- The mask that HTABSIZE gives (R215). -/
def htabMask (sdr1 : Word) : BitVec 28 := (1#28 <<< htabSize sdr1) - 1

/-- The real address of a Page Table Entry Group (R217). -/
def ptegAddr (sdr1 : Word) (h : BitVec 39) : RealAddr :=
  field sdr1 2 16 ++ ((h.extractLsb' 11 28 &&& htabMask sdr1) ||| field sdr1 18 28) ++ h.setWidth 11 ++ 0#7

/-- A Page Table Entry: its real address and its two doublewords (R210). -/
structure Pte where
  addr : RealAddr
  dw0 : Word
  dw1 : Word
  deriving DecidableEq, Repr

/-- The eight entries of a group (R208, R217). -/
def State.pteg (s : State) (a : RealAddr) : List Pte :=
  (List.range 8).map fun i =>
    let x := a + BitVec.ofNat 62 (16 * i)
    ⟨x, s.readDw x, s.readDw (x + 8)⟩

/-- How many high-order bits of the AVPN field a search compares: 52 and q = min(5, 28-p) (R218). -/
def avpnCompared (c : Params) (large : Bool) : Nat := 52 + min 5 (28 - pageBits c large)

/-- The entry matches; `second` tells the secondary group. An entry whose L differs from the segment's is no match (R218, D32;
item 37 of 93_implementation_defined.md would refuse it: assumption 56). -/
def Pte.hits (c : Params) (t : Pte) (large second : Bool) (va : BitVec 80) : Bool :=
  bit t.dw0 62 == second && bit t.dw0 63 && bit t.dw0 61 == large
    && t.dw0 >>> (64 - avpnCompared c large) == (va >>> (80 - avpnCompared c large)).setWidth 64

/-- The entry meets the conditions of R210 on AVPN and RPN: their low-order bits for its page size, and their high-order bits
for the widths of virtual and real addresses, are zeros. -/
def Pte.proper (c : Params) (t : Pte) (large : Bool) : Bool :=
  t.dw0 >>> 7 &&& ((1#64 <<< (pageBits c large - 23)) - 1) == 0
    && t.dw1 >>> 12 &&& ((1#64 <<< (pageBits c large - 12)) - 1) == 0
    && t.dw0 >>> (c.virtualBits - 16) == 0
    && t.dw1 &&& mask 2 51 &&& ~~~realMask c == 0

/-- Two matching entries are identical in all defined fields but SW, H, AC, R and C (R220). -/
def Pte.same (t u : Pte) : Bool :=
  (t.dw0 ^^^ u.dw0) &&& (mask 0 56 ||| mask 61 61 ||| mask 63 63) == 0
    && (t.dw1 ^^^ u.dw1) &&& (mask 2 51 ||| mask 57 63) == 0

/-- The copy of a Page Table Entry that translates a virtual page (R110). -/
def Pte.entry (c : Params) (t : Pte) (large : Bool) (va : BitVec 80) : TlbEntry := ⟨vpnOf c large va, large, t.dw1, t.addr⟩

/-- The outcome of a search for a virtual page. -/
inductive Lookup where
  /-- Found, in the TLB or in the Page Table. -/
  | hit (e : TlbEntry) (cached : Bool)
  /-- A page fault (R224). -/
  | miss
  /-- The Page Table lies in real storage that does not exist (R196). -/
  | absent
  | refuse (r : Refusal)
  deriving DecidableEq, Repr

/-- Any one member of a nonempty list (R220). -/
def pickOne {α : Type} (x : α) (xs : List α) (n : Nat) : α :=
  match xs with
  | [] => x
  | _ :: _ => (x :: xs).getD (Config.freeIndex n % (xs.length + 1)) x

/-- The Page Table Entries of both groups that match (R216 to R218). -/
def State.pteMatches (s : State) (large : Bool) (va : BitVec 80) : List Pte :=
  ((s.pteg (ptegAddr s.spr.sdr1 (primaryHash s.cfg large va))).filter fun t => t.hits s.cfg large false va)
    ++ (s.pteg (ptegAddr s.spr.sdr1 (~~~primaryHash s.cfg large va))).filter fun t => t.hits s.cfg large true va

/-- Some byte of the two groups does not exist. -/
def State.ptegAbsent (s : State) (large : Bool) (va : BitVec 80) : Bool :=
  absentHit s.cfg (ptegAddr s.spr.sdr1 (primaryHash s.cfg large va)) 128
    || absentHit s.cfg (ptegAddr s.spr.sdr1 (~~~primaryHash s.cfg large va)) 128

/-- The Page Table search (R215 to R220). -/
def State.searchTable (s : State) (large : Bool) (va : BitVec 80) : Lookup :=
  if s.cfg.htabSizeMax < htabSize s.spr.sdr1 then .refuse .htabSize
  else if s.ptegAbsent large va then .absent
  else match s.pteMatches large va with
    | [] => .miss
    | t :: ts =>
      if !(ts.all fun u => t.same u) then .refuse .duplicatePte
      else if t.proper s.cfg large then .hit ((pickOne t ts s.run.draws).entry s.cfg large va) false
      else .refuse .badPte

/-- The TLB entries for a virtual page (R225). -/
def State.tlbMatches (s : State) (large : Bool) (va : BitVec 80) : List TlbEntry :=
  if s.cfg.hasTlb then s.tlb.filter fun e => e.large == large && e.vpn == vpnOf s.cfg large va else []

/-- The TLB, then the Page Table (R225). -/
def State.lookup (s : State) (large : Bool) (va : BitVec 80) : Lookup :=
  match s.tlbMatches large va with
  | [] => s.searchTable large va
  | e :: es => .hit (pickOne e es s.run.draws) true

/-- The real address: RPN[0:61-p] and the byte offset (R222). -/
def TlbEntry.realAddress (c : Params) (e : TlbEntry) (ea : Word) : RealAddr :=
  e.dw1.setWidth 62 >>> pageBits c e.large <<< pageBits c e.large
    ||| (ea.setWidth 62 &&& ((1#62 <<< pageBits c e.large) - 1))

/-! ### The path of an access (R140, R150, R200) -/

/-- Where an effective address leads. -/
inductive Path where
  /-- Real addressing mode. -/
  | real (ra : RealAddr)
  /-- Real addressing mode, no access (R159). -/
  | denied
  /-- Translated by an SLB entry and a Page Table Entry. -/
  | mapped (b : SlbEntry) (e : TlbEntry) (cached : Bool)
  /-- No SLB entry (R203). -/
  | segment
  /-- No Page Table Entry (R224). -/
  | page
  /-- The Page Table lies in storage that does not exist. -/
  | absent
  | refuse (r : Refusal)
  deriving DecidableEq, Repr

/-- Translation of an effective address (R200). -/
def State.translate (s : State) (ea : Word) : Path :=
  match s.slbMatches ea with
  | [] => .segment
  | [b] =>
    if b.l && !s.cfg.largePages then .refuse .largePages
    else match s.lookup b.l (virtualAddress b ea) with
      | .hit e cached => .mapped b e cached
      | .miss => .page
      | .absent => .absent
      | .refuse r => .refuse r
  | _ => .refuse .duplicateSlb

/-- The path of an access, given the relocate bit that governs it (R140, R150); Little-Endian mode has no definition (N5). -/
def State.path (s : State) (relocate : Bool) (ea : Word) : Path :=
  if le s.msr then .refuse .littleEndian
  else if relocate then s.translate ea
  else if !s.realRange ea then .refuse .realAddressRange
  else match s.realMode ea with
    | some ra => .real ra
    | none => .denied

/-! ### Storage control bits and protection (R170, R171, R223, R230 to R233) -/

/-- PTE[AC]. -/
def TlbEntry.ac (e : TlbEntry) : Bool := bit e.dw1 54
/-- PTE[R]. -/
def TlbEntry.r (e : TlbEntry) : Bool := bit e.dw1 55
/-- PTE[C]. -/
def TlbEntry.c (e : TlbEntry) : Bool := bit e.dw1 56
/-- PTE[W]. R170 makes support for W=1 optional, and for M=0: the model supports both values of every bit (DESIGN CHOICE,
assumption 62). -/
def TlbEntry.w (e : TlbEntry) : Bool := bit e.dw1 57
/-- PTE[I]. -/
def TlbEntry.i (e : TlbEntry) : Bool := bit e.dw1 58
/-- PTE[G]. -/
def TlbEntry.g (e : TlbEntry) : Bool := bit e.dw1 60
/-- PTE[N]. -/
def TlbEntry.n (e : TlbEntry) : Bool := bit e.dw1 61
/-- PTE[PP]. -/
def TlbEntry.pp (e : TlbEntry) : BitVec 2 := field e.dw1 62 2

/-- The key of an access (R232). -/
def key (msr : Word) (b : SlbEntry) : Bool := if pr msr then b.kp else b.ks

/-- Figure 30 permits an instruction fetch or a load (R232, R233). -/
def mayRead (key : Bool) (pp : BitVec 2) : Bool := !(key && pp == 0)

/-- Figure 30 permits a store (R232, R233). -/
def mayWrite (key : Bool) (pp : BitVec 2) : Bool := if key then pp == 2 else pp != 3

/-! ### Reference and Change recording (R175 to R179) -/

/-- PTE doubleword 1 with R set, and C for a store. -/
def recordedDw1 (dw1 : Word) (store : Bool) : Word := setBit (if store then setBit dw1 56 true else dw1) 55 true

/-- Storage with a byte ORed with a value. -/
def Memory.orByte (m : List Host.Cell) (a : RealAddr) (v : Byte) : List Host.Cell :=
  Memory.write m a.toNat (Memory.read m a.toNat ||| v)

/-- Storage with Reference, and Change for a store, set in the byte of the Page Table Entry that holds the bit, unless they are 1
already (R175, D15). -/
def recordedMem (m : List Host.Cell) (e : TlbEntry) (store : Bool) : List Host.Cell :=
  let m := if e.r then m else Memory.orByte m (e.pteAddr + 14) 1
  if !store || e.c then m else Memory.orByte m (e.pteAddr + 15) 0x80

/-- The TLB with an entry that a search has found, if the environment keeps it (R225). -/
def State.filledTlb (s : State) (e : TlbEntry) : List TlbEntry :=
  if s.run.tlbFill && s.cfg.hasTlb && !s.tlb.contains e then e :: s.tlb else s.tlb

/-- The successful search of an access that is then denied: R225 lets its result be kept in the TLB like any other's (whether
it is kept is the environment's choice; assumption 6). -/
def State.keep (s : State) (e : TlbEntry) (cached : Bool) : State :=
  { s with tlb := if cached then s.tlb else s.filledTlb e }

/-- The TLB after the use of an entry: its copy follows, or the entry that a search has found may be kept (R225). -/
def State.recordedTlb (s : State) (e : TlbEntry) (cached store : Bool) : List TlbEntry :=
  let e' : TlbEntry := { e with dw1 := recordedDw1 e.dw1 store }
  if cached then s.tlb.map fun x => if x = e then e' else x else s.filledTlb e'

/-- Recording would write a byte of a Page Table Entry that does not exist (R196). -/
def recordAbsent (c : Params) (e : TlbEntry) (store : Bool) : Bool :=
  (!e.r && absentHit c (e.pteAddr + 14) 1) || (store && !e.c && absentHit c (e.pteAddr + 15) 1)

/-- Reference, and Change for a store, are recorded (R175, R225). -/
def State.record (s : State) (e : TlbEntry) (cached store : Bool) : State :=
  { s with mem := recordedMem s.mem e store, tlb := s.recordedTlb e cached store }

/-! ### Instruction fetch -/

/-- The word at a real address, or a Machine Check where there is no storage (R196, D30). -/
def State.fetchWord (s : State) (ra : RealAddr) : Access Half :=
  if absentHit s.cfg ra 4 then .trap (s.machineCheck true) else .ok (s.readWord ra) s

/-- SRR1 bits of an Instruction Storage interrupt for a translated fetch (R231, R468): 35 for a No-execute or Guarded page,
36 where Figure 30 gives no access. -/
def fetchInfo (msr : Word) (b : SlbEntry) (e : TlbEntry) : Word :=
  bitIf 35 (b.n || e.n || e.g) ||| bitIf 36 (!mayRead (key msr b) e.pp)

/-- The fetch of the instruction at CIA (R468, R471). -/
def State.fetch (s : State) : Access Half :=
  match s.path (ir s.msr) s.cia with
  | .real ra => s.fetchWord ra
  | .denied => .trap (s.instStorage (bitIf 36 true))
  | .segment => .trap s.instSegment
  | .page => .trap (s.instStorage (bitIf 33 true))
  | .absent => .trap (s.machineCheck true)
  | .refuse r => .refuse r
  | .mapped b e cached =>
    if e.w && e.i then .refuse .writeThroughInhibited
    else if fetchInfo s.msr b e ≠ 0 then .trap ((s.keep e cached).instStorage (fetchInfo s.msr b e))
    else if absentHit s.cfg (e.realAddress s.cfg s.cia) 4 || recordAbsent s.cfg e false then
      .trap ((s.keep e cached).machineCheck true)
    else ((s.drawn 1).record e cached false).fetchWord (e.realAddress s.cfg s.cia)

/-- The real address from which the instruction at `addr` would be fetched, if there is one. -/
def State.fetchAddress (s : State) (addr : Word) : Option RealAddr :=
  match s.path (ir s.msr) (ea32 s.msr addr) with
  | .real ra => some ra
  | .mapped _ e _ => some (e.realAddress s.cfg (ea32 s.msr addr))
  | .denied | .segment | .page | .absent | .refuse _ => none

/-- The alteration from `s` to `t` is an implicit branch: the real address of the instruction itself or of the next one is
not the same in either context; having one in one context only counts (R142, R632). The instructions that follow are tested as
they are fetched (`State.settled`). -/
def implicitBranch (s t : State) : Bool :=
  s.fetchAddress s.cia != t.fetchAddress s.cia || s.fetchAddress t.nia != t.fetchAddress t.nia

/-- The answer of a context-altering instruction (R142, item 34). -/
def State.alter (s t : State) : Result := require (!implicitBranch s t) .implicitBranch (.next t)

/-- Doubleword 1 of a Page Table Entry without R and C. -/
def mappingOf (dw1 : Word) : Word := dw1 &&& ~~~(mask 55 56)

/-- The two copies are of one translation, whatever R and C they hold. -/
def TlbEntry.sameMapping (e f : TlbEntry) : Bool :=
  e.pteAddr == f.pteAddr && e.vpn == f.vpn && e.large == f.large && mappingOf e.dw1 == mappingOf f.dw1

/-- The bytes of `old` that `new` has replaced. -/
def Memory.replaced (old new : List Host.Cell) : List (RealAddr × Byte) :=
  ((old ++ new).filter fun c => Memory.read old c.1 != Memory.read new c.1).map fun c =>
    (BitVec.ofNat 62 c.1, Memory.read old c.1)

/-- The registers that the address of a fetch depends on are the same (R150, R215). -/
def Sprs.sameFetch (x y : Sprs) : Bool := x.lpcr == y.lpcr && x.rmor == y.rmor && x.hrmor == y.hrmor && x.sdr1 == y.sdr1

/-- The entries of one TLB whose translation the other does not hold. -/
def tlbMinus (xs ys : List TlbEntry) : List TlbEntry := xs.filter fun e => !ys.any e.sameMapping

/-- What the step from `old` to `t` has replaced, of the things that instruction fetch depends on (R632); what its searches have put
into the TLB they found before the alteration. -/
def State.alteration (t old : State) : FetchContext where
  spr := if t.spr.sameFetch old.spr then none else some old.spr
  slb := if t.slb.filter (·.v) == old.slb.filter (·.v) then none else some old.slb
  tlb := tlbMinus t.tlb old.tlb ++ old.tlb
  mem := Memory.replaced old.mem t.mem

/-- What an alteration and a later one together have replaced: where both did, the earlier contents. -/
def FetchContext.followedBy (c later : FetchContext) : FetchContext where
  spr := c.spr.or later.spr
  slb := c.slb.or later.slb
  tlb := c.tlb
  mem := later.mem ++ c.mem

/-- Another agent has stored to these bytes, and these TLB entries have gone: either holds with the alteration and without it. -/
def FetchContext.disturbed (c : FetchContext) (stores : List (RealAddr × Byte)) (gone : List TlbEntry) : FetchContext :=
  { c with tlb := tlbMinus c.tlb gone, mem := c.mem.filter fun x => !stores.any fun y => y.1 == x.1 }

/-- The state as instruction fetch would find it without an alteration and those that followed it. -/
def State.inContext (s : State) (c : FetchContext) : State :=
  { s with
    spr := c.spr.getD s.spr
    slb := c.slb.getD s.slb
    tlb := c.tlb
    mem := Memory.writeAll s.mem c.mem }

/-- A search in this state for the page of a TLB entry finds the same translation. -/
def State.finds (s : State) (e : TlbEntry) : Bool :=
  match s.lookup e.large (e.vpn <<< pageBits s.cfg e.large) with
  | .hit f _ => f.sameMapping e
  | .miss | .absent | .refuse _ => false

/-- The context after a step from `s` that put entries into the TLB: it would hold those that a search in the context finds, but
not one that copies a Page Table Entry from after the alteration. -/
def FetchContext.filled (c : FetchContext) (s : State) (fills : List TlbEntry) : FetchContext :=
  { c with tlb := ((tlbMinus fills c.tlb).filter (s.inContext c).finds) ++ c.tlb }

/-- The real address of the instruction at CIA is independent of whether the alterations since the last context synchronizing
instruction or event have taken effect (R632). -/
def State.settled (s : State) : Bool :=
  s.run.contexts.all fun c => (s.inContext c).fetchAddress s.cia == s.fetchAddress s.cia

/-! ### The attributes of the pages accessed (R171) -/

/-- The implicit access to the Page Table Entry of a translation, where one is made: neither Write Through Required nor Caching
Inhibited (R158). -/
def TlbEntry.tableUse (e : TlbEntry) (made : Bool) : List PageUse :=
  if made then [⟨e.pteAddr.extractLsb' 12 50, false, false, none, true⟩] else []

/-- The accesses that a fetch makes. -/
def State.fetchUse (s : State) : List PageUse :=
  match s.path (ir s.msr) s.cia with
  | .real ra => [⟨ra.extractLsb' 12 50, false, false, none, false⟩]
  | .mapped _ e cached =>
    ⟨(e.realAddress s.cfg s.cia).extractLsb' 12 50, e.w, e.i, some e, false⟩ :: e.tableUse (!cached || !e.r)
  | .denied | .segment | .page | .absent | .refuse _ => []

/-- The accesses of a data access are noted. -/
def State.use (s : State) (us : List PageUse) : State := { s with run := { s.run with uses := us ++ s.run.uses } }

/-- The two accesses reach one real page with different W or I bits. -/
def PageUse.differs (u v : PageUse) : Bool := u.page == v.page && (u.w != v.w || u.i != v.i)

/-- The translation is still in force: its Page Table Entry stands as it was used, or the TLB holds it (R171: 'at any given
time'). -/
def State.inForce (s : State) (e : TlbEntry) : Bool :=
  (bit (s.readDw e.pteAddr) 63 && mappingOf (s.readDw (e.pteAddr + 8)) == mappingOf e.dw1)
    || s.cfg.hasTlb && s.tlb.any fun x => x.pteAddr == e.pteAddr && x.vpn == e.vpn && mappingOf x.dw1 == mappingOf e.dw1

/-- The earlier translated accesses whose translation is still in force. -/
def State.standingUses (s : State) : List PageUse := s.run.past.filter fun u => u.entry.any s.inForce

/-- An access of the step that began in `s` and answered `t` conflicts with another access of the step or with an earlier one
that is in force (R171). -/
def attributesDiffer (s t : State) : Bool :=
  let now := s.fetchUse ++ t.run.uses
  now.any fun u => (now ++ s.standingUses).any u.differs

/-- The accesses to remember after the step: the translated ones (R171). -/
def State.remember (t s : State) : State :=
  { t with run := { t.run with
      past := ((s.fetchUse ++ t.run.uses).filter fun u => u.entry.isSome && !s.standingUses.contains u) ++ s.standingUses } }

end Sys2Proof.Machine
end

