-- ==== Sys2Proof/Machine/ForeignWords.lean ====
section
/-! DEFINITION. The words of other books to which Book III gives an effect: `or Rx,Rx,Rx`, `sync`, `eieio`, `mftb`, primary
opcode 0 (R296, R349, R179, R397, R555, R301). -/

namespace Sys2Proof.Machine

/-- `mftb RT,TBR`: 268 is the Time Base, 269 its upper half (R555); another TBR is a Privileged Instruction interrupt in
problem state when tbr[0]=1, else an Illegal Instruction interrupt (R480, D34). -/
def execMftb (rt : Reg) (tbr : BitVec 10) (s : State) : Result :=
  match tbr.toNat with
  | 268 => .next (s.advance.setGpr rt s.time.tb)
  | 269 => .next (s.advance.setGpr rt (zext (high s.time.tb)))
  | _ => if tbr.getLsbD 4 && s.problem then s.raise .privileged else s.raise .illegal

/-- The effect of a word of another book. -/
def execForeign (f : Foreign) (s : State) : Result :=
  match f with
  | .orSame _ => .next s.advance
  | .sync _ => .next s.advance
  | .eieio => .next s.advance
  | .mftb rt tbr => execMftb rt tbr s
  | .opcode0 => s.raise .illegal

end Sys2Proof.Machine
end

