-- ==== Sys2Proof/Machine/Access.lean ====
section
/-! DEFINITION. The data access of a storage instruction (R464 to R470): Data Address Compare and Breakpoint (R240 to R245),
the violations of an access, the parts of an operand, and the recording that follows once every part has passed its checks
(R175, R498, D29). -/

namespace Sys2Proof.Machine

/-! ### Kinds of access -/

/-- How a Compare or Breakpoint condition that holds is reported: as a match, as a match or not (R241, R245), or never. -/
inductive Matching where
  | applies
  | free
  | never
  deriving DecidableEq, Repr

/-- What an access sets in the Page Table Entry, Figure 29 without its 'acceptable' cases (R178, D25). -/
inductive Recording where
  | nothing
  | reference
  | change
  deriving DecidableEq, Repr

/-- What the checks and the recording of an access depend on. -/
structure AccessKind where
  /-- It is treated as a Store (protection, DSISR[6]). -/
  store : Bool
  /-- Storage that is Write Through Required or Caching Inhibited is a Data Storage exception (R464, R412). -/
  noWI : Bool
  /-- In real addressing mode that cause arises only with Real Mode Storage Control (`lq`, `stq`: R412). -/
  rmscOnly : Bool
  recording : Recording
  /-- Data Address Compare. -/
  dac : Matching
  /-- Data Address Breakpoint. -/
  dabr : Matching
  deriving DecidableEq, Repr

/-- An ordinary Load. -/
def AccessKind.load : AccessKind := ⟨false, false, false, .reference, .applies, .applies⟩

/-- An ordinary Store. -/
def AccessKind.write : AccessKind := ⟨true, false, false, .change, .applies, .applies⟩

/-- The access of a Load And Reserve or a Store Conditional that is performed (R464). -/
def AccessKind.reserve (store : Bool) : AccessKind :=
  { (if store then AccessKind.write else AccessKind.load) with noWI := true }

/-- The access of `lq` or `stq` (R412). -/
def AccessKind.quad (store : Bool) : AccessKind := { AccessKind.reserve store with rmscOnly := true }

/-! ### Compare and Breakpoint (R240 to R245) -/

/-- The match reported for conditions that hold or not; `any` is a free bit. -/
def Matching.report (m : Matching) (holds any : Bool) : Bool :=
  match m with
  | .applies => holds
  | .free => holds && any
  | .never => false

/-- The conditions of a Data Address Compare match (R240). -/
def dacConditions (accr : Word) (e : TlbEntry) (store : Bool) : Bool := e.ac && (if store then bit accr 62 else bit accr 63)

/-- A Data Address Compare match (R240, R241). -/
def State.dacMatch (s : State) (k : AccessKind) (e : TlbEntry) : Bool :=
  k.dac.report (dacConditions s.spr.accr e k.store) (Config.freeBit (s.run.draws + 2))

/-- DABRX[PRIVM] holds a value that is not supported (R57). -/
def privmUnsupported (dabrx : Word) : Bool := field dabrx 61 3 == 5 || field dabrx 61 3 == 6

/-- The conditions of a Data Address Breakpoint match for the `n` bytes from an effective address (R244). -/
def State.dabrConditions (s : State) (store : Bool) (ea : Word) (n : Nat) : Bool :=
  let x := s.spr.dabrx
  (dr s.msr == bit s.spr.dabr 61 || bit x 60)
    && ((s.hypervisor && bit x 61) || (s.supervisor && bit x 62) || (s.problem && bit x 63))
    && (if store then bit s.spr.dabr 62 else bit s.spr.dabr 63)
    && (List.range n).any fun i => field (eaAfter s.msr ea i) 0 61 == field s.spr.dabr 0 61

/-- A Data Address Breakpoint match (R244, R245); for an unsupported PRIVM whether a match occurs is undefined whatever else
the DABR and DABRX hold (R57). -/
def State.dabrMatch (s : State) (k : AccessKind) (ea : Word) (n : Nat) : Bool :=
  let any := Config.freeBit s.run.draws
  if privmUnsupported s.spr.dabrx then k.dabr != .never && any else k.dabr.report (s.dabrConditions k.store ea n) any

/-! ### Violations -/

/-- The conditions of a Data Storage exception that hold for an access that has been translated. -/
structure Violation where
  /-- Storage protection (DSISR[4]). -/
  protect : Bool
  /-- Write Through Required or Caching Inhibited (DSISR[5]). -/
  wi : Bool
  /-- Data Address Compare match. -/
  dac : Bool
  /-- Data Address Breakpoint match. -/
  dabr : Bool
  deriving DecidableEq, Repr

/-- Some condition holds. -/
def Violation.any (v : Violation) : Bool := v.protect || v.wi || v.dac || v.dabr

/-- DSISR bits 4, 5, 6 and 9 (R465). -/
def Violation.dsisr (v : Violation) (store : Bool) : Half :=
  hbitIf 4 v.protect ||| hbitIf 5 v.wi ||| hbitIf 6 store ||| hbitIf 9 (v.dac || v.dabr)

/-- The Data Storage interrupt of a violation: the DAR is `dar`, undefined for a Breakpoint match alone (R466, D46). -/
def State.violate (s : State) (v : Violation) (store : Bool) (dar : Word) : State :=
  if v.protect || v.wi || v.dac then s.dataStorage (v.dsisr store) dar
  else (s.drawn 1).dataStorage (v.dsisr store) (Config.freeWord s.run.draws)

/-- A part of a storage operand that lies in one page: the effective address of its first byte, how many bytes it has, and the
address that the DAR reports for it (R466, R470, D46). -/
structure Part where
  ea : Word
  size : Nat
  dar : Word
  deriving DecidableEq, Repr

/-- The operand of a Load or Store that lies in one page. -/
def Part.whole (ea : Word) (n : Nat) : Part := ⟨ea, n, ea⟩

/-- The violations of an access in real addressing mode; `ra` is none where there is no access. Without Real Mode Storage Control
`lq` and `stq` have no W or I cause there, as R412 says, also where R158 makes the storage Caching Inhibited (assumption 57). -/
def State.realViolation (s : State) (k : AccessKind) (x : Part) (ra : Option RealAddr) : Violation where
  protect := ra.isNone
  wi := k.noWI && (s.cfg.hasRmsc || !k.rmscOnly) && (match ra with | some a => s.realInhibited a x.size | none => false)
  dac := false
  dabr := s.dabrMatch k x.ea x.size

/-- The violations of a translated access. -/
def State.mappedViolation (s : State) (k : AccessKind) (x : Part) (b : SlbEntry) (e : TlbEntry) : Violation where
  protect := if k.store then !mayWrite (key s.msr b) e.pp else !mayRead (key s.msr b) e.pp
  wi := k.noWI && (e.w || e.i)
  dac := s.dacMatch k e
  dabr := s.dabrMatch k x.ea x.size

/-! ### The access -/

/-- Where a part of an operand lies: its real address and length, the attributes that govern it, and the translation used. -/
structure Target where
  ra : RealAddr
  size : Nat
  w : Bool
  i : Bool
  /-- The Page Table Entry, and whether it was found in the TLB. -/
  entry : Option (TlbEntry × Bool)
  deriving DecidableEq, Repr

/-- The next thing to do with what an access has given. -/
def Access.bind {α β : Type} (x : Access α) (f : α → State → Access β) : Access β :=
  match x with
  | .ok a s => f a s
  | .trap s => .trap s
  | .refuse r => .refuse r

/-- The storage control attributes W, I, M, G of the part whose path is `p`, where it has some (R158, R165, R170). -/
def State.attributes (s : State) (p : Path) (x : Part) : Option (BitVec 4) :=
  match p with
  | .real ra => some (0#1 ++ bit1 (s.realInhibited ra x.size) ++ 1#1 ++ bit1 (s.realGuarded ra x.size))
  | .mapped _ e _ => some (field e.dw1 57 4)
  | .denied | .segment | .page | .absent | .refuse _ => none

/-- The page has W = I = 1, which is not supported (R171, item 40). -/
def Path.unsupported : Path → Bool
  | .mapped _ e _ => e.w && e.i
  | .real _ | .denied | .segment | .page | .absent | .refuse _ => false

/-- The causes of an Alignment interrupt that depend on the attributes of the operand's storage (R474). -/
structure AttributeCauses where
  /-- Write Through Required or Caching Inhibited storage: causes (4), (6), (7). -/
  inhibited : Bool
  /-- Virtual pages of different attributes: cause (5). -/
  different : Bool
  deriving DecidableEq, Repr

/-- A part with the attributes `now`, after one with the attributes `before`, has one of the causes. -/
def State.attributesStop (s : State) (r : AttributeCauses) (before now : Option (BitVec 4)) : Bool :=
  now.any fun a => (r.inhibited && (a.getLsbD 3 || a.getLsbD 2)) || (r.different && dr s.msr && before.any fun b => b != a)

/-- Every check of the access to one part, whose path is `p` (R464 to R470, R196, D29, D30, D42, D46); three undefined values
are drawn. A successful search may be kept in the TLB although the access is denied (R225). That the storage exists is checked also
where the access is that of a Store Conditional that is not performed, or of a cache instruction (the spec is silent; DESIGN CHOICE,
assumption 28). -/
def State.probe (s0 : State) (k : AccessKind) (p : Path) (x : Part) : Access Target :=
  let s := s0.drawn 3
  match p with
  | .refuse r => .refuse r
  | .segment => .trap (s.dataSegment x.dar)
  | .page => .trap (s.dataStorage (hbitIf 1 true ||| hbitIf 6 k.store) x.dar)
  | .absent => .trap (s.machineCheck true)
  | .denied => .trap (s.violate (s0.realViolation k x none) k.store x.dar)
  | .real ra =>
    if (s0.realViolation k x (some ra)).any then .trap (s.violate (s0.realViolation k x (some ra)) k.store x.dar)
    else if absentHit s.cfg ra x.size then .trap (s.machineCheck true)
    else .ok ⟨ra, x.size, false, s0.realInhibited ra x.size, none⟩ s
  | .mapped b e cached =>
    let ra := e.realAddress s.cfg x.ea
    if e.w && e.i then .refuse .writeThroughInhibited
    else if (s0.mappedViolation k x b e).any then
      .trap ((s.keep e cached).violate (s0.mappedViolation k x b e) k.store x.dar)
    else if absentHit s.cfg ra x.size || (k.recording != .nothing && recordAbsent s.cfg e (k.recording == .change)) then
      .trap ((s.keep e cached).machineCheck true)
    else .ok ⟨ra, x.size, e.w, e.i, some (e, cached)⟩ s

/-- What the access records in the Page Table Entry that translates it (R175). -/
def State.recordAs (s : State) (r : Recording) (e : TlbEntry) (cached : Bool) : State :=
  match r with
  | .nothing => s.keep e cached
  | .reference => s.record e cached false
  | .change => s.record e cached true

/-- Recording writes to the Page Table Entry. -/
def Recording.writes (r : Recording) (e : TlbEntry) : Bool :=
  match r with
  | .nothing => false
  | .reference => !e.r
  | .change => !e.r || !e.c

/-- The pages used by the access to a part: that of the part, and that of the Page Table Entry where it is read or written
(R171, R158). -/
def Target.pageUses (t : Target) (r : Recording) : List PageUse :=
  ⟨t.ra.extractLsb' 12 50, t.w, t.i, t.entry.map Prod.fst, false⟩ ::
    match t.entry with
    | some (e, cached) => e.tableUse (!cached || r.writes e)
    | none => []

/-- The access to a part is made: Reference and Change are recorded (R175), and the use of the pages is noted (R171). -/
def State.commit (s : State) (k : AccessKind) (t : Target) : State :=
  match t.entry with
  | some (e, cached) => (s.recordAs k.recording e cached).use (t.pageUses k.recording)
  | none => s.use (t.pageUses k.recording)

/-- The access of a Load or Store to an operand of `n` bytes that lies in one page: the real address, once every check has
passed and Reference and Change are recorded. -/
def State.dataAccess (s : State) (k : AccessKind) (ea : Word) (n : Nat) : Access RealAddr :=
  (s.probe k (s.path (dr s.msr) ea) (Part.whole ea n)).bind fun t u => .ok t.ra (u.commit k t)

/-- The checks of an operand of several parts, in order of their addresses (R498): the first part that has an exception
decides. Of one part the Alignment causes of its attributes come first (R501), with the interrupt `align`; `before` are the
attributes of the part before it. -/
def State.probeAll (s : State) (k : AccessKind) (r : AttributeCauses) (align : State → State) (before : Option (BitVec 4)) :
    List Part → Access (List Target)
  | [] => .ok [] s
  | x :: xs =>
    let p := s.path (dr s.msr) x.ea
    let now := s.attributes p x
    if p.unsupported then .refuse .writeThroughInhibited
    else if s.attributesStop r before now then .trap (align s)
    else (s.probe k p x).bind fun t u => (u.probeAll k r align now xs).bind fun ts v => .ok (t :: ts) v

/-- The access to an operand of several parts: no part is accessed before all have passed (R495, D29). -/
def State.accessAll (s : State) (k : AccessKind) (r : AttributeCauses) (align : State → State) (xs : List Part) :
    Access (List Target) :=
  (s.probeAll k r align none xs).bind fun ts u => .ok ts (ts.foldl (fun v t => v.commit k t) u)

/-- An Effective Address Overflow, which Book I defines and the environment tells, is a Data Storage interrupt with translation on
and does not occur with it off (R36); no cause bit of R465 names it (assumption 63). -/
def State.overflowTest (s : State) (store : Bool) (ea : Word) (f : Result) : Result :=
  if dr s.msr && s.run.overflow then .next (s.dataStorage (hbitIf 6 store) ea) else f

/-- The parts of the `n` bytes from an effective address, cut at the boundary of a 4 KB page; an operand is shorter than a
page. -/
def partsOf (msr ea : Word) (n : Nat) : List Part :=
  let room := 4096 - (field ea 52 12).toNat
  if n = 0 then []
  else if n ≤ room then [Part.whole ea n]
  else [Part.whole ea room, Part.whole (eaAfter msr ea room) (n - room)]

/-! ### Stores and the reservation -/

/-- The granule of a real address (assumption 27). -/
def granule (c : Params) (ra : RealAddr) : RealAddr := ra >>> c.granuleLog2 <<< c.granuleLog2

/-- A store to the reserved granule ends the reservation (R411). -/
def State.loseReservation (s : State) (ra : RealAddr) : State :=
  { s with bookI := { s.bookI with
      reservation := s.bookI.reservation.filter fun g => granule s.cfg g != granule s.cfg ra } }

/-- The operand's address is recorded for the samples of the Performance Monitor and the Trace extensions (R594, R613). -/
def State.withOperand (s : State) (ea : Word) : State := { s with run := { s.run with opEa := some ea } }

end Sys2Proof.Machine
end

