-- ==== Sys2Proof/Machine/External.lean ====
section
/-! DEFINITION. What Book III adds to `eciwx` and `ecowx`: the External Control facility (R416). -/

namespace Sys2Proof.Machine

/-- The tests that come before the operand of an External Control instruction is looked at: the option, EAR[E], MSR[DR]
(R416). The transfer to or from the device is the device's business (N8). -/
def State.externalControl (s : State) (store : Bool) (f : Result) : Result :=
  s.optional s.cfg.hasEar <|
    if !hbit s.spr.ear 0 then
      .next ((s.drawn 1).dataStorage (hbitIf 11 true ||| hbitIf 6 store) (Config.freeWord s.run.draws))
    else if !dr s.msr then .refused .externalControlRealMode
    else f

end Sys2Proof.Machine
end

