-- ==== Sys2Proof/Machine/Timers.lean ====
section
/-! DEFINITION. Time and the Performance Monitor: the tick (R551), what the counters count (R585, R587), conditions, events and
alerts (R590 to R594), and which maskable interrupts are pending (R501 step 3). -/

namespace Sys2Proof.Machine

/-! ### Performance Monitor (R583 to R596) -/

/-- A field of MMCR0 that is one bit (R586). -/
def State.mmcr0 (s : State) (i : Nat) : Bool := bit s.pm.mmcr0 i

/-- The sampled instruction of an alert: its address, the MSR in effect for it, its storage operand (R591, R593, R594). -/
structure Sample where
  cia : Word
  msr : Word
  ea : Option Word
  deriving DecidableEq, Repr

/-- The most recently completed instruction (D52). -/
def State.lastSample (s : State) : Sample := ⟨s.run.lastCia, s.run.lastMsr, s.run.lastEa⟩

/-- Every PMC is frozen for an instruction executed with MSR `m` (R587). -/
def State.frozenAll (s : State) (m : Word) : Bool :=
  s.mmcr0 32
    || (s.mmcr0 33 && !hv m && !pr m)
    || (s.mmcr0 34 && pr m)
    || (s.mmcr0 35 && pmm m)
    || (s.mmcr0 36 && !pmm m)
    || (s.mmcr0 63 && hv m && !pr m)

/-- PMC(i+1) is frozen; `branchUnit`: its event is a Branch Unit event (R587). -/
def State.frozen (s : State) (m : Word) (i : Nat) (branchUnit : Bool) : Bool :=
  s.frozenAll m
    || (decide (i < 4) && s.mmcr0 58)
    || (decide (4 ≤ i) && s.mmcr0 59)
    || (decide (0 < i) && s.mmcr0 50)
    || (s.mmcr0 62 && !hbit s.spr.ctrl 31 && branchUnit)

/-- The properties of an executed instruction that what follows it depends on. -/
structure Executed where
  /-- It is in the list of R459. -/
  keepsHsrr : Bool
  /-- It is `rfid` or `hrfid`, never traced (R490). -/
  isReturn : Bool
  /-- It may change MSR[FE0 FE1] (R482). -/
  changesFe : Bool
  /-- It is `sc`, which completes by taking its interrupt (R488). -/
  isCall : Bool
  /-- It is context synchronizing (R632). -/
  synchronizes : Bool
  /-- It can alter the context of instruction fetch and is not context synchronizing (R632). -/
  alters : Bool
  /-- It is a Branch, taken or not (R490). -/
  isBranch : Bool
  taken : Bool
  /-- It is a Load, or `eciwx` (R612). -/
  isLoad : Bool
  /-- It is a Store, `dcbz` or `ecowx` (R612). -/
  isStore : Bool
  isIcbi : Bool
  /-- It is `dcbt`, `dcbtst`, `dcbz`, `dcbst` or `dcbf[l]` (R612). -/
  isCache : Bool
  /-- It is `lswx` or `stswx` (R612). -/
  isIndexedString : Bool
  /-- It is `eciwx` or `ecowx` (R612). -/
  isExternal : Bool
  /-- It is `lwarx`, `ldarx`, `stwcx.` or `stdcx.` (R612). -/
  isReserve : Bool
  deriving DecidableEq, Repr

/-- An instruction with none of the properties. -/
def Executed.plain : Executed :=
  ⟨false, false, false, false, false, false, false, false, false, false, false, false, false, false, false⟩

/-- What a step did, as far as the Performance Monitor can count it (R581, R585). -/
structure Happened where
  /-- The instruction that completed, if one did. -/
  completed : Option Executed
  /-- How often each event of Book IV occurred. -/
  others : List (Nat × Half)
  deriving DecidableEq, Repr

/-- How often an event occurred in a step; a cycle is a step (R585, D52). -/
def Happened.times (h : Happened) (k : EventKind) : Half :=
  let if1 (b : Bool) : Half := if b then 1 else 0
  match k with
  | .instruction => if1 h.completed.isSome
  | .cycle => 1
  | .load => if1 (h.completed.any (·.isLoad))
  | .store => if1 (h.completed.any (·.isStore))
  | .branch => if1 (h.completed.any (·.isBranch))
  | .takenBranch => if1 (h.completed.any (·.taken))
  | .other n => ((h.others.find? fun x => x.1 == n).map fun x => x.2).getD 0

/-- The code in MMCR1 that selects the event of PMC(i+1), bits 32+8i to 39+8i (R588). -/
def pmSelector (mmcr1 : Word) (i : Nat) : BitVec 8 := field mmcr1 (32 + 8 * i) 8

/-- The row of `PM_EVENT_TABLE` that PMC(i+1) counts by, if its selector's code names an event (R581). -/
def State.pmRow (s : State) (i : Nat) : Option PmRow :=
  s.cfg.pmEvents.find? fun r => r.pmc == i && r.code == pmSelector s.pm.mmcr1 i

/-- What PMC(i+1) counts: the event that MMCR1 selects for PMC1 to PMC4, completed instructions for PMC5, cycles for PMC6
(R581, R585, D52). -/
def State.pmEvent (s : State) (i : Nat) : Option EventKind :=
  if i < 4 then (s.pmRow i).map (·.event) else if i = 4 then some .instruction else some .cycle

/-- The event of PMC(i+1) is a Branch Unit type of event (R587). -/
def State.pmBranchUnit (s : State) (i : Nat) : Bool := decide (i < 4) && (s.pmRow i).any (·.branchUnit)

/-- What PMC(i+1) would add in a step (R585). -/
def State.pmIncrement (s : State) (h : Happened) (i : Nat) : Half := ((s.pmEvent i).map h.times).getD 0

/-- What a counter holds after an increment, unless it is frozen (R585, R587). -/
def counted (isFrozen : Bool) (x n : Half) : Half := if isFrozen then x else x + n

/-- The counters after a step executed with MSR `m` (R585, R587). -/
def State.count (s : State) (m : Word) (h : Happened) : State :=
  if s.cfg.hasPmm then
    { s with pm := { s.pm with
        pmc := s.pm.pmc.mapIdx fun i x => counted (s.frozen m i (s.pmBranchUnit i)) x (s.pmIncrement h i) } }
  else s

/-- An enabled counter negative condition exists (R590). -/
def State.counterNegative (s : State) : Bool :=
  (s.mmcr0 48 && hbit s.pm.pmc[0] 0)
    || (s.mmcr0 49 && (hbit s.pm.pmc[1] 0 || hbit s.pm.pmc[2] 0 || hbit s.pm.pmc[3] 0 || hbit s.pm.pmc[4] 0
      || hbit s.pm.pmc[5] 0))

/-- The Time Base bit that MMCR0[TBSEL] selects (R586). -/
def tbSelected (mmcr0 : Word) : Nat :=
  match (field mmcr0 39 2).toNat with
  | 0 => 63
  | 1 => 55
  | 2 => 51
  | _ => 47

/-- An enabled Time Base transition event: the selected bit changes from 0 to 1 (R590). -/
def State.tbEvent (s : State) (old new : Word) : Bool :=
  s.mmcr0 41 && !bit old (tbSelected s.pm.mmcr0) && bit new (tbSelected s.pm.mmcr0)

/-- Tracing is active and the Trace extensions are setting SIAR and SDAR (R597). -/
def State.tracing (s : State) : Bool := s.cfg.hasTraceExt && (se s.msr || be s.msr)

/-- What SDAR is left at by an alert whose sampled instruction has no storage operand: unchanged (R594), which is an undefined
value if its contents have been undefined since alerts were armed. -/
def State.sdarKept (s : State) : Word := if s.run.sdarStale then Config.freeWord s.run.draws else s.pm.sdar

/-- A Performance Monitor alert (R591, R593, R594); SIAR and SDAR are defined from now on. -/
def State.alert (s : State) (p : Sample) : State :=
  { s with
    pm := { s.pm with
      mmcr0 := setBit (setBit s.pm.mmcr0 37 false) 56 true
      mmcra := setBit (setBit (setBit s.pm.mmcra 32 p.ea.isSome) 35 (hv p.msr)) 36 (pr p.msr)
      siar := p.cia
      sdar := p.ea.getD s.sdarKept }
    run := { s.run with draws := s.run.draws + 1, siarStale := false, sdarStale := false } }

/-- What an enabled condition or event does to MMCR0[TRIGGER] and MMCR0[FC] (R590). -/
def triggered (mmcr0 : Word) (pmc1Negative enabled : Bool) : Word :=
  if bit mmcr0 50 && (pmc1Negative || enabled) then setBit mmcr0 50 false
  else if enabled && bit mmcr0 38 then setBit mmcr0 32 true
  else mmcr0

/-- Conditions and events are evaluated (R590); `event`: an enabled Time Base transition event has occurred. -/
def State.pmEvaluate (s : State) (event : Bool) (p : Sample) : State :=
  if s.cfg.hasPmm then
    let enabled := s.counterNegative || event
    let t := { s with pm := { s.pm with mmcr0 := triggered s.pm.mmcr0 (hbit s.pm.pmc[0] 0) enabled } }
    if enabled && t.mmcr0 37 then t.alert p else t
  else s

/-! ### Ticks (R551) -/

/-- One Time Base update period (R551, R552, R561, R567, R572, D50). -/
def State.tick (s : State) : State :=
  let tb := if s.cfg.tbEnabled then s.time.tb + 1 else s.time.tb
  let t := { s with time := { tb := tb, dec := s.time.dec - 1, hdec := s.time.hdec - 1, purr := s.time.purr + 1 } }
  t.pmEvaluate (s.tbEvent s.time.tb tb) s.lastSample

/-- `n` ticks. -/
def State.ticks (s : State) : Nat → State
  | 0 => s
  | n + 1 => s.tick.ticks n

/-! ### Maskable interrupts (R501 step 3) -/

/-- A Hypervisor Decrementer interrupt is enabled and its exception exists (R487, R568). -/
def State.hdecPending (s : State) : Bool :=
  hbit s.time.hdec 0 && (ee s.msr || !hv s.msr || pr s.msr) && hdice s.spr.lpcr

/-- The maskable interrupts that may be taken now (R501). -/
def State.pendingInterrupts (s : State) : List IntKind :=
  (if s.hdecPending then [.hypDecrementer] else [])
    ++ (if s.pend.external && ee s.msr then [.external] else [])
    ++ (if hbit s.time.dec 0 && ee s.msr then [.decrementer] else [])
    ++ (if s.cfg.hasPmm && s.mmcr0 56 && ee s.msr then [.perfMonitor] else [])

/-- Bits 33:36 and 42:47 of SRR1 for a maskable interrupt (R472, R486, R487, R492). -/
def State.pendingInfo (s : State) : IntKind → Word
  | .perfMonitor => s.cfg.pmSrr1Info
  | .systemReset | .machineCheck | .dataStorage | .dataSegment | .instStorage | .instSegment | .external | .alignment
  | .program | .fpUnavailable | .decrementer | .hypDecrementer | .systemCall _ | .trace => 0

/-- A maskable interrupt is taken before the next instruction (R501 step 3). -/
def State.takePending (s : State) (k : IntKind) : State := s.takeInterrupt k s.cia (s.pendingInfo k)

end Sys2Proof.Machine
end

