-- ==== Sys2Proof/Machine/Outside.lean ====
section
/-! DEFINITION. What Book III adds to the instructions of Books I and II (R5): Floating-Point Unavailable (R483), Trap (R480),
Illegal Instruction (R301, D34), Alignment (R474 to R476), Data Segment and Data Storage (R464 to R470), the Floating-Point
Enabled Exception (R482). What such an instruction does when nothing stops it, the environment says (assumption 48). -/

namespace Sys2Proof.Machine

/-! ### Kinds of storage instruction -/

/-- What Book III's rules ask of a kind of storage instruction. -/
structure Traits where
  /-- A Load, or a Store, in the sense of R464 and R474. -/
  load : Bool
  store : Bool
  /-- A floating-point one. -/
  float : Bool
  /-- A Load or Store of a single register, cause (3) of R474. -/
  single : Bool
  /-- Its unaligned operand is cause (2) of R474. -/
  mustAlign : Bool
  /-- Load and Store Multiple and String, cause (4) of R474. -/
  many : Bool
  /-- The operand is the cache block that the address lies in. -/
  block : Bool
  deriving DecidableEq, Repr

/-- None of them. -/
def Traits.none : Traits := ⟨false, false, false, false, false, false, false⟩

/-- The traits of each kind (R464, R474). -/
def StorageKind.traits : StorageKind → Traits
  | .load _ => { Traits.none with load := true, single := true }
  | .store _ => { Traits.none with store := true, single := true }
  | .fpLoad _ => { Traits.none with load := true, single := true, float := true }
  | .fpStore _ => { Traits.none with store := true, single := true, float := true }
  | .loadMultiple => { Traits.none with load := true, mustAlign := true, many := true }
  | .storeMultiple => { Traits.none with store := true, mustAlign := true, many := true }
  | .loadString _ => { Traits.none with load := true, many := true }
  | .storeString _ => { Traits.none with store := true, many := true }
  | .loadReserve _ => { Traits.none with load := true, mustAlign := true }
  | .storeConditional _ => { Traits.none with store := true, mustAlign := true }
  | .externalIn | .externalOut => { Traits.none with mustAlign := true }
  | .dcbz | .dcbst | .icbi => { Traits.none with block := true }
  | .dcbt => Traits.none

/-- The Store is performed: a Store Conditional without a reservation is not (assumption 50). -/
def StorageKind.performed (k : StorageKind) (s : State) : Bool :=
  match k with
  | .storeConditional _ => s.bookI.reservation.isSome
  | _ => true

/-- The checks and the recording of its access (R178, R240 to R245, R464, R465); the cache instructions but `dcbz` are treated
as Loads. -/
def StorageKind.access (k : StorageKind) (s : State) : AccessKind :=
  match k with
  | .load _ | .fpLoad _ | .loadMultiple | .loadString _ | .externalIn => .load
  | .store _ | .fpStore _ | .storeMultiple | .storeString _ | .externalOut => .write
  | .loadReserve _ => .reserve false
  | .storeConditional _ => if k.performed s then .reserve true else ⟨true, true, false, .nothing, .free, .free⟩
  | .dcbz => { AccessKind.write with dabr := .free }
  | .dcbst | .dcbt | .icbi => ⟨false, false, false, .nothing, .never, .never⟩

/-! ### The operand -/

/-- RT, RS, FRT or FRS, RA, RB (R282). -/
def rtOf (w : Half) : Reg := ifield w 6 5
def raOf (w : Half) : Reg := ifield w 11 5
def rbOf (w : Half) : Reg := ifield w 16 5

/-- What is added to (RA|0): RB, D or DS || 0b00; nothing for `lswi` and `stswi`. -/
def StorageWord.offset (x : StorageWord) (w : Half) (s : State) : Word :=
  match x.form, x.kind with
  | .x, .loadString false | .x, .storeString false => 0
  | .x, _ => s.readGpr (rbOf w)
  | .d, _ => (ifield w 16 16).signExtend 64
  | .ds, _ => (ifield w 16 14 ++ 0#2).signExtend 64

/-- The effective address. -/
def StorageWord.ea (x : StorageWord) (w : Half) (s : State) : Word := ea32 s.msr (s.readGpr0 (raOf w) + x.offset w s)

/-- The length of the operand in bytes: for a multiple the registers from RT to 31, for a string NB (0 meaning 32) or
XER[57:63]. -/
def StorageWord.length (x : StorageWord) (w : Half) (s : State) : Nat :=
  match x.kind with
  | .load n | .store n | .fpLoad n | .fpStore n | .loadReserve n | .storeConditional n => n
  | .loadMultiple | .storeMultiple => 4 * (32 - (rtOf w).toNat)
  | .loadString false | .storeString false => if rbOf w = 0 then 32 else (rbOf w).toNat
  | .loadString true | .storeString true => (field s.bookI.xer 57 7).toNat
  | .dcbz | .dcbst | .dcbt | .icbi => 2 ^ s.cfg.blockLog2
  | .externalIn | .externalOut => 4

/-- What an aligned address is a multiple of (R474, D47). -/
def StorageWord.unit (x : StorageWord) (n : Nat) : Nat :=
  match x.kind with
  | .loadMultiple | .storeMultiple => 4
  | .loadString _ | .storeString _ => 1
  | _ => n

/-- The address is a multiple of `n`. -/
def alignedTo (n : Nat) (ea : Word) : Bool := ea.toNat % n == 0

/-- A Store Conditional that does not store, on an implementation on which it then takes no storage interrupt (R464, R469). -/
def StorageWord.exempt (x : StorageWord) (s : State) : Bool := !x.kind.performed s && !s.cfg.stcxFailDsi

/-- The parts of the operand that are checked. `dcbt` and `dcbtst` cause no storage interrupt: no list of R464, R469 and R474
names them. -/
def StorageWord.parts (x : StorageWord) (w : Half) (s : State) : List Part :=
  let ea := x.ea w s
  if x.kind = .dcbt || x.exempt s then []
  else if x.kind.traits.block then [⟨ea >>> s.cfg.blockLog2 <<< s.cfg.blockLog2, 2 ^ s.cfg.blockLog2, ea⟩]
  else partsOf s.msr ea (x.length w s)

/-- The effective address of the operand's last byte. -/
def lastByte (msr ea : Word) (n : Nat) : Word := eaAfter msr ea (n - 1)

/-- The operand crosses a segment boundary (translation on). -/
def State.crossesSegment (s : State) (ea : Word) (n : Nat) : Bool :=
  dr s.msr && n != 0 && field ea 0 36 != field (lastByte s.msr ea n) 0 36

/-- The operand crosses a boundary of the virtual pages of its segment, by the page size of the translation in use (D47). -/
def State.crossesPage (s : State) (ea : Word) (n : Nat) : Bool :=
  s.crossesSegment ea n || (dr s.msr && n != 0 &&
    match s.slbMatches ea with
    | [b] => ea >>> pageBits s.cfg b.l != lastByte s.msr ea n >>> pageBits s.cfg b.l
    | _ => false)

/-- The causes of an Alignment interrupt that the operand's address and the mode decide: (1) to (3), the mode of (4), the segment
boundary of (5) (R474). -/
def State.misaligned (s : State) (x : StorageWord) (w : Half) : Bool :=
  let ea := x.ea w s
  let n := x.length w s
  let k := x.kind.traits
  (k.float && (!alignedTo 4 ea || s.crossesPage ea n))
    || (k.mustAlign && !alignedTo (x.unit n) ea)
    || (k.single && le s.msr && !alignedTo n ea)
    || (k.many && n != 0 && le s.msr)
    || ((k.load || k.store) && s.crossesSegment ea n)

/-- The causes that the attributes of its storage decide: (4), (5), (6), and (7) for `dcbz` (R474; for the others of (7) the Data
Storage interrupt is taken instead, D42). -/
def StorageWord.attributeCauses (x : StorageWord) (w : Half) (s : State) : AttributeCauses :=
  let k := x.kind.traits
  let access := k.load || k.store
  { inhibited := k.many || (access && !alignedTo (x.unit (x.length w s)) (x.ea w s)) || x.kind == .dcbz
    different := access }

/-- The register is among those that a Load Multiple or String of `n` bytes loads, from RT on and round to register 0. -/
def loadsRegister (w : Half) (n : Nat) (r : Reg) : Bool := decide ((r - rtOf w).toNat < (n + 3) / 4)

/-- Bits 27:31 of the DSISR are RA: for update forms, and for `lmw`, `lswi` and `lswx` in a form that does not load RA; of the
values that R475 allows there the model takes RA (assumption 51). -/
def StorageWord.reportsRa (x : StorageWord) (w : Half) (n : Nat) : Bool :=
  match x.kind with
  | .loadMultiple | .loadString _ => !loadsRegister w n (raOf w)
  | _ => x.update

/-- The DSISR of its Alignment interrupt (R475); what R475 leaves undefined is free. -/
def StorageWord.dsisr (x : StorageWord) (w : Half) (s : State) : Half :=
  let any := Config.freeHalf s.run.draws
  let ra := if x.reportsRa w (x.length w s) then raOf w else any.setWidth 5
  let d := match x.form with
    | .x => alignDsisrX w ra
    | .d => alignDsisrD w ra
    | .ds => alignDsisrDs w ra
  if x.kind = .dcbz then (d &&& ~~~0x3E0) ||| (any &&& 0x3E0) else d

/-! ### The effect -/

/-- The registers as Books I and II leave them; the reserved bits of the XER stay 0. -/
def State.applied (s : State) (e : BaseEffect) : State :=
  { s.advance with gpr := e.gpr, bookI := { e.bookI with xer := e.bookI.xer &&& xerMask } }

/-- The real addresses of the bytes of an operand. -/
def targetBytes (ts : List Target) : List RealAddr :=
  ts.flatMap fun t => (List.range t.size).map fun i => t.ra + BitVec.ofNat 62 i

/-- Bytes are stored to an operand (R131, D28); a reservation on their granule is lost. -/
def State.storeBytes (s : State) (ts : List Target) (bs : List Byte) : State :=
  let at_ := (targetBytes ts).zip bs
  at_.foldl (fun t x => t.loseReservation x.1) { s with mem := Memory.writeAll s.mem at_ }

/-- Books I and II have an effect for the word, or no meaning is known. -/
def withBase (b : Option BaseEffect) (r : Refusal) (f : BaseEffect → Result) : Result :=
  match b with
  | some e => f e
  | none => .refused r

/-- The instruction needs MSR[FP] (R483). -/
def State.needsFp (s : State) (float : Bool) (f : Result) : Result :=
  if float && !fp s.msr then .next (s.takeInterrupt .fpUnavailable s.cia 0) else f

/-- The access of a string of length zero: no interrupt for reasons of translation, protection or alignment; whether a Compare
or Breakpoint match occurs is undefined (R241, R245, R464, R469). -/
def State.emptyAccess (s : State) (k : AccessKind) (ea : Word) : Access (List Target) :=
  let k := { k with dac := .free, dabr := .free }
  let dac := match s.path (dr s.msr) ea with
    | .mapped _ e _ => s.dacMatch k e
    | .real _ | .denied | .segment | .page | .absent | .refuse _ => false
  let v : Violation := ⟨false, false, dac, s.dabrMatch k ea 1⟩
  if v.any then .trap ((s.drawn 3).violate v k.store ea) else .ok [] (s.drawn 3)

/-- The instruction takes its Alignment interrupt (R475, R476). -/
def StorageWord.takeAlignment (x : StorageWord) (w : Half) (s : State) : State :=
  (s.drawn 1).alignment (x.dsisr w s) (x.ea w s)

/-- The instruction's access to its operand. -/
def StorageWord.accessOperand (x : StorageWord) (w : Half) (s : State) : Access (List Target) :=
  if x.length w s = 0 then s.emptyAccess (x.kind.access s) (x.ea w s)
  else s.accessAll (x.kind.access s) (x.attributeCauses w s) (x.takeAlignment w) (x.parts w s)

/-- The test for an Effective Address Overflow, if the instruction accesses an operand at all. -/
def StorageWord.overflowTest (x : StorageWord) (w : Half) (s : State) (f : Result) : Result :=
  if (x.parts w s).isEmpty then f else s.overflowTest (x.kind.access s).store (x.ea w s) f

/-- The instruction writes to its operand. -/
def StorageKind.writes (k : StorageKind) (s : State) : Bool := (k.traits.store && k.performed s) || k == .dcbz

/-- An `lswx` whose range of registers holds RA or RB is an Illegal Instruction interrupt (R480, D34). -/
def StorageWord.illegal (x : StorageWord) (w : Half) (s : State) : Bool :=
  x.kind == .loadString true
    && (loadsRegister w (x.length w s) (raOf w) || loadsRegister w (x.length w s) (rbOf w))

/-- The tests that an External Control instruction adds (R416). -/
def StorageKind.external (k : StorageKind) (s : State) (f : Result) : Result :=
  match k with
  | .externalIn => s.externalControl false f
  | .externalOut => s.externalControl true f
  | _ => f

/-- Why a storage instruction that nothing stops has no effect here, if the environment gives none. -/
def StorageKind.unknown (k : StorageKind) (w : Half) : Refusal :=
  match k with
  | .externalIn | .externalOut => .externalControlDevice
  | _ => .outsideBookIII w

/-- A storage instruction of Books I and II, in the order of R500 and R501: Illegal Instruction, Floating-Point Unavailable,
Alignment, the access. Its effective address counts as that of its storage operand for SIAR and SDAR (R594, R613), also for a
string of length zero, of which the spec is silent (DESIGN CHOICE, assumption 64). -/
def execStorage (x : StorageWord) (w : Half) (b : Option BaseEffect) (s : State) : Result :=
  if x.illegal w s then s.raise .illegal
  else x.kind.external s <| s.needsFp x.kind.traits.float <|
    if s.misaligned x w then .next (x.takeAlignment w s)
    else x.overflowTest w s <| (x.accessOperand w s).andThen fun ts t => withBase b (x.kind.unknown w) fun e =>
      let u := (t.applied e).withOperand (x.ea w s)
      if x.kind.writes s then s.alter (u.storeBytes ts e.stored) else .next u

/-- A floating-point instruction that is no Load or Store: Floating-Point Unavailable (R483), and after its effect the
Floating-Point Enabled Exception, reported at the instruction itself in every mode (R480, R482; assumption 52). -/
def execFloat (w : Half) (b : Option BaseEffect) (s : State) : Result :=
  s.needsFp true <| withBase b (.outsideBookIII w) fun e =>
    let t := s.applied e
    if fpEnabled t.msr t.bookI.fpscr then .next (t.takeInterrupt .program s.cia (programInfo .fpPrecise)) else .next t

/-- A word of Books I and II (R5, R500): `b` is what the environment says of it. -/
def execOutside (x : Outside) (w : Half) (b : Option BaseEffect) (s : State) : Result :=
  match x with
  | .storage y => execStorage y w b s
  | .float => execFloat w b s
  | .trap => withBase b (.outsideBookIII w) fun e => if e.traps then s.raise .trap else .next (s.applied e)
  | .branch => withBase b (.outsideBookIII w) fun e => .next { s.applied e with nia := e.nia &&& ~~~(3#64) }
  | .isync => .next s.advance
  | .plain _ => withBase b (.outsideBookIII w) fun e => .next (s.applied e)

/-- The word runs as Books I and II say, or is an illegal instruction there (R301). -/
def execBase (x : Outside) (w : Half) (b : Option BaseWord) (s : State) : Result :=
  match b with
  | some .illegal => s.raise .illegal
  | some (.runs e) => execOutside x w (some e) s
  | none => execOutside x w none s

/-! ### What follows it -/

/-- The properties of a storage instruction (R459, R611, R612). -/
def StorageWord.executed (x : StorageWord) (w : Half) (s : State) : Executed :=
  let k := x.kind
  { Executed.plain with
    keepsHsrr := x.listed && alignedTo (x.unit (x.length w s)) (x.ea w s) && !ir s.msr && !dr s.msr
    isLoad := k.traits.load || k == .externalIn
    isStore := k.traits.store || k == .dcbz || k == .externalOut
    isIcbi := k == .icbi
    isCache := k == .dcbz || k == .dcbst || k == .dcbt
    isIndexedString := k == .loadString true || k == .storeString true
    isExternal := k == .externalIn || k == .externalOut
    isReserve := match k with
      | .loadReserve _ | .storeConditional _ => true
      | _ => false }

/-- The Branch is taken, as the environment says. -/
def BaseWord.taken : BaseWord → Bool
  | .illegal => false
  | .runs e => e.taken

/-- The properties of a word of Books I and II, executed in state `s`. -/
def executedOutside (x : Outside) (w : Half) (b : Option BaseWord) (s : State) : Executed :=
  match x with
  | .storage y => y.executed w s
  | .float | .trap => Executed.plain
  | .branch => { Executed.plain with keepsHsrr := true, isBranch := true, taken := b.any (·.taken) }
  | .isync => { Executed.plain with keepsHsrr := true, synchronizes := true }
  | .plain listed => { Executed.plain with keepsHsrr := listed }

end Sys2Proof.Machine
end

