-- ==== Sys2Proof/Machine/Cycle.lean ====
section
/-! DEFINITION. What surrounds the execution of an instruction in a step (R501): the environment's input, the side effect on
HSRR0 and HSRR1 (R459), the context of instruction fetch (R632) and the attributes of the pages used (R171), counting (R585),
ticks (R551), the Floating-Point Enabled Exception (R482) and Trace (R490, R610). -/

namespace Sys2Proof.Machine

/-! ### Before -/

/-- What the environment does at this step; beyond the list it is quiet (assumption 5). -/
def State.input (s : State) : Input := s.run.inputs.headD Input.quiet

/-- The TLB without the entries at the given positions (R225). -/
def dropTlb (tlb : List TlbEntry) (drop : List Nat) : List TlbEntry :=
  (tlb.zipIdx.filter fun x => !drop.contains x.2).map fun x => x.1

/-- The exceptions presented: a new presentation is added to what is pending, the External level is replaced (R113). -/
def Pending.present (p : Pending) (i : Input) : Pending where
  sysReset := i.sysReset.or p.sysReset
  machineCheck := i.machineCheck.or p.machineCheck
  external := i.external.getD p.external

/-- Another processor or mechanism stores bytes; a reservation on their granule is lost (R7, R112). -/
def State.foreignStores (s : State) (cs : List (RealAddr × Byte)) : State :=
  cs.foldl (fun t c => t.loseReservation c.1) { s with mem := Memory.writeAll s.mem cs }

/-- The state as a step finds it once the environment has acted. An interrupt of the step before was context synchronizing
(R632). -/
def State.present (s : State) : State :=
  { s with
    pend := s.pend.present s.input
    tlb := dropTlb s.tlb s.input.tlbDrop
    run := { s.run with
      inputs := s.run.inputs.tail, tlbFill := s.input.tlbFill, overflow := s.input.overflow, trapped := false, opEa := none
      uses := []
      contexts := if s.run.trapped then []
        else s.run.contexts.map fun c : FetchContext =>
          c.disturbed s.input.stores (tlbMinus s.tlb (dropTlb s.tlb s.input.tlbDrop)) } }.foreignStores s.input.stores

/-- The Machine Check exception that the environment has presented is taken (R462). -/
def State.takeMachineCheck (s : State) (recoverable : Bool) : State :=
  { s with pend := { s.pend with machineCheck := none } }.machineCheck recoverable

/-! ### What kind of instruction has been executed -/

/-- Writing the register can change the address from which instructions are fetched: SDR1, RMOR, HRMOR, LPCR (R632). -/
def altersFetch (spr : BitVec 10) : Bool := spr == 25 || spr == 312 || spr == 313 || spr == 318

/-- The properties of an instruction of Book III (R459, R482, R488, R490, R630, R632). -/
def executedInstr : Instr → Executed
  | .sc _ => { Executed.plain with isCall := true, synchronizes := true }
  | .rfid | .hrfid =>
    { Executed.plain with keepsHsrr := true, isReturn := true, changesFe := true, synchronizes := true }
  | .mtspr n _ => { Executed.plain with keepsHsrr := true, alters := altersFetch n }
  | .mfspr _ _ | .mfmsr _ => { Executed.plain with keepsHsrr := true }
  | .mtmsrd _ l => { Executed.plain with keepsHsrr := true, changesFe := !l, synchronizes := !l }
  | .mtmsr _ l => { Executed.plain with changesFe := !l, synchronizes := !l }
  | .lq _ _ _ => { Executed.plain with isLoad := true }
  | .stq _ _ _ => { Executed.plain with isStore := true }
  | .slbie _ | .slbia | .slbmte _ _ | .tlbie _ _ | .tlbiel _ _ | .tlbia | .mtsr _ _ | .mtsrin _ _ =>
    { Executed.plain with alters := true }
  | .slbmfev _ _ | .slbmfee _ _ | .tlbsync | .mfsr _ _ | .mfsrin _ _ | .ptesync => Executed.plain

/-- The properties of a word of another book: `or` is in the list of R459. -/
def executedForeign : Foreign → Executed
  | .orSame _ => { Executed.plain with keepsHsrr := true }
  | .sync _ | .eieio | .mftb _ _ | .opcode0 => Executed.plain

/-! ### After -/

/-- An instruction outside the list of R459 may leave HSRR0 and HSRR1 undefined. -/
def State.sideEffect (s : State) (x : Executed) : State :=
  if x.keepsHsrr then s
  else
    let n := s.run.draws
    { s with spr := { s.spr with
        hsrr0 := if Config.freeBit n then Config.freeWord n else s.spr.hsrr0
        hsrr1 := if Config.freeBit n then Config.freeWord (n + 1) else s.spr.hsrr1 } }.drawn 2

/-- The instruction at the address and MSR of `old` has completed. -/
def State.complete (t old : State) : State :=
  { t with run := { t.run with lastCia := old.cia, lastMsr := old.msr, lastEa := t.run.opEa } }

/-- The page lies in the Page Table: its address and HTABORG agree in the bits above the table's size (R214). -/
def inPageTable (sdr1 : Word) (page : BitVec 50) : Bool :=
  ((page ++ 0#12) ^^^ (field sdr1 2 44 ++ 0#18)) >>> (18 + htabSize sdr1) == 0

/-- The instruction has altered what fetch depends on: itself (R632), or by a store to the Page Table. -/
def Executed.altersContext (x : Executed) (t old : State) : Bool :=
  x.alters || (x.isStore && ir old.msr && t.run.uses.any fun u => !u.implicit && inPageTable old.spr.sdr1 u.page)

/-- The contexts that a later fetch is compared with (R632): none after a context synchronizing instruction, one more after an
alteration; the TLB fills of the step enter those that came before it. -/
def State.synchronize (t old : State) (x : Executed) : State :=
  let before := t.run.contexts.map fun c : FetchContext => c.filled old (tlbMinus t.tlb old.tlb)
  { t with run := { t.run with
      contexts := if x.synchronizes then []
        else if x.altersContext t old then
          t.alteration old :: before.map fun c : FetchContext => c.followedBy (t.alteration old)
        else before } }

/-- After a step in which tracing was active SIAR and SDAR hold undefined values, unless a Trace interrupt or an alert sets them
later (R597). -/
def State.afterTracing (t old : State) : State :=
  if old.tracing then { t with run := { t.run with siarStale := true, sdarStale := true } } else t

/-- Counting and ticks after a step that began in `old` with input `i` and completed an instruction or none (R501 step 7, R585,
R590). Freezing is by the MSR before the step, also where it takes an interrupt or enters the Checkstop state, which count as a
cycle like any other step (R587 and D52 name only the instruction counted; DESIGN CHOICE, assumption 59). -/
def State.elapse (t old : State) (i : Input) (completed : Option Executed) : State :=
  let t := t.count old.msr ⟨completed, i.events⟩
  let t := t.pmEvaluate false t.lastSample
  (t.ticks (i.ticks.getD t.cfg.ticksPerStep)).afterTracing old

/-- Bits 33:36 and 42:47 of SRR1 that the Trace extensions set for an instruction (R612). -/
def extendedInfo (x : Executed) : Word :=
  bitIf 33 x.isIcbi ||| bitIf 34 x.isCache ||| bitIf 35 x.isLoad ||| bitIf 36 x.isStore ||| bitIf 42 x.isIndexedString
    ||| bitIf 44 x.taken ||| bitIf 45 x.isExternal ||| bitIf 46 x.isReserve

/-- The instruction executed with MSR `m` is traced: Single-Step or Branch Trace (R490, D48); with the Trace extensions, SE and
BE together trace Branches and the instructions for which R612 sets a bit (R611). -/
def tracedBy (c : Params) (m : Word) (x : Executed) : Bool :=
  if c.hasTraceExt && se m && be m then !x.isReturn && (x.isBranch || extendedInfo x != 0)
  else (se m && !x.isReturn) || (be m && x.isBranch)

/-- Bits 33:36 and 42:47 of SRR1 for a Trace interrupt (R490, R612). -/
def traceInfo (c : Params) (x : Executed) : Word := if c.hasTraceExt then extendedInfo x else c.traceSrr1Info

/-- SIAR and SDAR at a Trace interrupt with the Trace extensions (R613). -/
def State.traceSamples (t old : State) : State :=
  if t.cfg.hasTraceExt && t.cfg.hasPmm then
    let n := t.run.draws
    let siar := if t.mmcr0 37 then Config.freeWord n else old.cia
    let sdar := if t.mmcr0 37 then Config.freeWord (n + 1) else t.run.opEa.getD (Config.freeWord (n + 1))
    { t with
      pm := { t.pm with siar := siar, sdar := sdar }
      run := { t.run with draws := n + 2, siarStale := t.run.siarStale && t.mmcr0 37
                          sdarStale := t.run.sdarStale && t.mmcr0 37 } }
  else t

/-- The exceptions that an instruction causes once it has completed without an interrupt (R501 step 8). -/
def State.afterwards (t old : State) (x : Executed) : State :=
  if x.changesFe && fpEnabled t.msr t.bookI.fpscr then
    t.takeInterrupt .program t.cia (programInfo .fpEnabled)
  else if tracedBy old.cfg old.msr x then
    (t.traceSamples old).takeInterrupt .trace t.cia (traceInfo old.cfg x)
  else t

/-- The rest of the step after an instruction that began in `old` and answered `t` (R501 steps 7 and 8). An instruction that
took an interrupt has no other effect (R302), unless it is `sc`, which completes by taking it. -/
def State.finish (t old : State) (i : Input) (x : Executed) : State :=
  let u := t.remember old
  if t.run.trapped then
    if x.isCall then ((u.sideEffect x).complete old).elapse old i (some x) else u.elapse old i none
  else ((((u.sideEffect x).synchronize old x).complete old).elapse old i (some x)).afterwards old x

/-- A step's answer, from an instruction's: refused where its accesses conflict (R171), and where it leaves LPCR[RMI] at 1 against
R158, before anything else follows. -/
def finishResult (r : Result) (old : State) (i : Input) (x : Executed) : Result :=
  match r with
  | .next t =>
    require (!attributesDiffer old t) .attributesDiffer <| require t.rmiProper .realModeInhibited (.next (t.finish old i x))
  | .fault f => .fault f
  | .refused e => .refused e

/-- A word that is no instruction of Book III: its effect where Book III gives one, else what Book III adds to the instruction
of Books I and II that it is (R286, R5). -/
def State.runForeign (t : State) (w : Half) (old : State) (i : Input) : Result :=
  match decodeForeign w with
  | some f => finishResult (execForeign f t) old i (executedForeign f)
  | none =>
    finishResult (execBase (decodeOutside w) w i.base t) old i (executedOutside (decodeOutside w) w i.base old)

end Sys2Proof.Machine
end

