-- ==== Sys2Proof/Machine/Slb.lean ====
section
/-! DEFINITION. SLB management: `slbie`, `slbia`, `slbmte`, `slbmfev`, `slbmfee` (42_slb_management.md). -/

namespace Sys2Proof.Machine

/-! ### Entries and their images in registers -/

/-- `SLB[i]`. -/
def State.slbEntry (s : State) (i : Nat) : SlbEntry := s.slb.getD i SlbEntry.zero

/-- The ghost memory of R370: the class last held by an ESID whose valid entry leaves the SLB. -/
def rememberClass (last : List (BitVec 36 × Bool)) (e : SlbEntry) : List (BitVec 36 × Bool) :=
  if e.v then (e.esid, e.c) :: last.filter fun x => x.1 != e.esid else last

/-- The displaced mappings once `new` has replaced `old`: `old` is added unless it is of the same ESID, whose mapping is now
`new` (R631 note 13). -/
def displace (gone : List SlbEntry) (old new : SlbEntry) : List SlbEntry :=
  (if old.v && old.esid != new.esid && !gone.contains old then old :: gone else gone).filter fun x => x.esid != new.esid

/-- `SLB[i] <- e`; the class and the mapping of the entry it replaces are remembered. -/
def State.setSlbEntry (s : State) (i : Nat) (e : SlbEntry) : State :=
  { s with slb := s.slb.set i e, slbLast := rememberClass s.slbLast (s.slbEntry i),
           slbGone := displace s.slbGone (s.slbEntry i) e }

/-- The valid entries of an ESID. -/
def State.slbOf (s : State) (esid : BitVec 36) : List SlbEntry := s.slb.filter fun e => e.v && e.esid == esid

/-- The class of the entry that translates the ESID, or that most recently translated it (R370). Of several valid entries of the
ESID the one of the lowest index gives the class (DESIGN CHOICE, assumption 18). -/
def State.classOf (s : State) (esid : BitVec 36) : Option Bool :=
  match s.slbOf esid with
  | e :: _ => some e.c
  | [] => (s.slbLast.find? fun x => x.1 == esid).map fun x => x.2

/-- The current mappings of an ESID: in the SLB, or displaced from it and not invalidated since (R631 note 13). -/
def State.mappingsOf (s : State) (esid : BitVec 36) : List SlbEntry :=
  s.slbOf esid ++ s.slbGone.filter fun e => e.esid == esid

/-- The entry that `slbmte` loads from RS and RB, Figure 32 (R373). -/
def SlbEntry.ofRegisters (rs rb : Word) : SlbEntry where
  esid := field rb 0 36
  v := bit rb 36
  vsid := field rs 0 52
  ks := bit rs 52
  kp := bit rs 53
  n := bit rs 54
  l := bit rs 55
  c := bit rs 56

/-- `VSID || Ks || Kp || N || L || C || 0b000_0000`, with RT[0:79-n] zeros for virtual addresses of `n` bits (R374). -/
def SlbEntry.vsidImage (c : Params) (e : SlbEntry) : Word :=
  (e.vsid ++ bit1 e.ks ++ bit1 e.kp ++ bit1 e.n ++ bit1 e.l ++ bit1 e.c ++ 0#7) &&& vsidMask c

/-- `ESID || V || zeros(27)` (R375). -/
def SlbEntry.esidImage (e : SlbEntry) : Word := e.esid ++ bit1 e.v ++ 0#27

/-- In 32-bit mode the ESID is in the range 0 to 15 (R370, R373). -/
def esidInMode (msr rb : Word) : Bool := sf msr || high rb == 0

/-- RB selects an entry: the precondition on its other bits is `clear`, and the index is below the size of the SLB (R373 to
R375). -/
def State.slbIndex (s : State) (rb clear : Word) (f : Nat → Result) : Result :=
  require (rb &&& clear == 0) .reservedOperandBits <|
    require (decide ((field rb 52 12).toNat < s.slb.length)) .slbIndex (f (field rb 52 12).toNat)

/-! ### The instructions -/

/-- The valid entries of the ESID become invalid, their other fields undefined. R370 speaks of 'the entry (if any)', since
software must keep to one (R203); of several every one becomes invalid, whatever its class, and the class that is remembered of
them is that of the highest index (DESIGN CHOICE, assumption 18). -/
def State.invalidateEsid (s : State) (esid : BitVec 36) : State :=
  let n := s.run.draws
  { s with
    slb := s.slb.mapIdx fun (i : Nat) (e : SlbEntry) => if e.v && e.esid == esid then SlbEntry.invalid (n + i) else e
    slbLast := (s.slbOf esid).foldl rememberClass s.slbLast
    slbGone := s.slbGone.filter fun x => x.esid != esid }.drawn s.slb.length

/-- Every entry but entry 0 becomes invalid, its other fields undefined (R371, D40). Of several of one ESID the class of the highest
index is remembered (DESIGN CHOICE, assumption 18). -/
def State.invalidateSlb (s : State) : State :=
  let n := s.run.draws
  { s with
    slb := s.slb.mapIdx fun (i : Nat) (e : SlbEntry) => if i = 0 then e else SlbEntry.invalid (n + i)
    slbLast := s.slb.tail.foldl rememberClass s.slbLast
    slbGone := [] }.drawn s.slb.length

/-- `slbie RB` (R370). -/
def execSlbie (rb : Reg) (s : State) : Result :=
  let b := s.readGpr rb
  s.privileged <|
    require (b &&& mask 37 63 == 0) .reservedOperandBits <|
    require (esidInMode s.msr b) .esidRange <|
    require ((s.classOf (field b 0 36)).all fun c => c == bit b 36) .slbClass <|
    s.alter (s.advance.invalidateEsid (field b 0 36))

/-- `slbia` (R371). -/
def execSlbia (s : State) : Result := s.privileged (s.alter s.advance.invalidateSlb)

/-- `slbmte RS,RB` (R373). Where the ESID is mapped and no `slbie` or `slbia` came before, every field of the mapping must stay as it
is; that the Class counts among the 'associated attributes' of R631 note 13 is DESIGN CHOICE (assumption 55). -/
def execSlbmte (rs rb : Reg) (s : State) : Result :=
  let a := s.readGpr rs
  let b := s.readGpr rb
  s.privileged <|
    require (a &&& mask 57 63 == 0 && a &&& ~~~vsidMask s.cfg == 0) .reservedOperandBits <|
    s.slbIndex b (mask 37 51) fun i =>
    require (esidInMode s.msr b) .esidRange <|
    require (bit b 36) .slbmteInvalid <|
    require (!bit a 55 || s.cfg.largePages) .largePages <|
    require ((s.mappingsOf (field b 0 36)).all fun x => x == SlbEntry.ofRegisters a b) .slbRemapped <|
    s.alter (s.advance.setSlbEntry i (SlbEntry.ofRegisters a b))

/-- `slbmfev RT,RB` (R374); of an invalid entry the result is undefined. -/
def execSlbmfev (rt rb : Reg) (s : State) : Result :=
  s.privileged <| s.slbIndex (s.readGpr rb) (mask 0 51) fun i =>
    if (s.slbEntry i).v then .next (s.advance.setGpr rt ((s.slbEntry i).vsidImage s.cfg))
    else .next ((s.advance.setGpr rt (Config.freeWord s.run.draws)).drawn 1)

/-- `slbmfee RT,RB` (R375); of an invalid entry only RT[36] = 0 is defined. -/
def execSlbmfee (rt rb : Reg) (s : State) : Result :=
  s.privileged <| s.slbIndex (s.readGpr rb) (mask 0 51) fun i =>
    if (s.slbEntry i).v then .next (s.advance.setGpr rt (s.slbEntry i).esidImage)
    else .next ((s.advance.setGpr rt (setBit (Config.freeWord s.run.draws) 36 false)).drawn 1)

end Sys2Proof.Machine
end

