-- ==== Sys2Proof/Machine/Bridge.lean ====
section
/-! DEFINITION. The Bridge: `mtsr`, `mtsrin`, `mfsr`, `mfsrin` (45_bridge.md). SLB entry i emulates Segment Register i (R425,
R61). -/

namespace Sys2Proof.Machine

/-- The SLB entry that a Move To Segment Register creates (R426, R431). -/
def SlbEntry.ofSegment (sr : BitVec 4) (rs : Word) : SlbEntry where
  esid := 0#32 ++ sr
  v := true
  vsid := 0#25 ++ field rs 37 27
  ks := bit rs 33
  kp := bit rs 34
  n := bit rs 35
  l := bit rs 36
  c := false

/-- The entry was, or could have been, created by a Move To Segment Register (R428). -/
def SlbEntry.isSegment (e : SlbEntry) : Bool :=
  e.v && e.esid >>> 4 == 0 && e.vsid >>> 27 == 0 && !e.l && !e.c

/-- RT[32:63] of a Move From Segment Register (R428, R431). -/
def SlbEntry.segmentImage (e : SlbEntry) : Half :=
  0#1 ++ bit1 e.ks ++ bit1 e.kp ++ bit1 e.n ++ bit1 e.l ++ e.vsid.setWidth 27

/-- The order of tests common to the four instructions: option, privilege, 32-bit mode (R426 to R429). -/
def State.bridge (s : State) (f : Result) : Result :=
  s.optional s.cfg.hasBridge <| s.privileged <| require (!sf s.msr) .wrongMode f

/-- Segment Register `sr` is loaded from a register (R426, R427); R631 note 13 does not bind it (R426). -/
def State.loadSegment (s : State) (sr : BitVec 4) (v : Word) : Result :=
  require (!bit v 36) .reservedOperandBits <|
    s.alter (s.advance.setSlbEntry sr.toNat (SlbEntry.ofSegment sr v))

/-- Segment Register `sr` is copied to RT: RT[0:31] are undefined, and all of RT if the entry has not the form (R428, R429). -/
def State.storeSegment (s : State) (rt : Reg) (sr : BitVec 4) : Result :=
  let e := s.slbEntry sr.toNat
  let x := Config.freeWord s.run.draws
  .next ((s.advance.setGpr rt (if e.isSegment then high x ++ e.segmentImage else x)).drawn 1)

/-- `mtsr SR,RS` (R426). -/
def execMtsr (sr : BitVec 4) (rs : Reg) (s : State) : Result := s.bridge (s.loadSegment sr (s.readGpr rs))

/-- `mtsrin RS,RB` (R427). -/
def execMtsrin (rs rb : Reg) (s : State) : Result :=
  s.bridge (s.loadSegment (srOfAddress (s.readGpr rb)) (s.readGpr rs))

/-- `mfsr RT,SR` (R428). -/
def execMfsr (rt : Reg) (sr : BitVec 4) (s : State) : Result := s.bridge (s.storeSegment rt sr)

/-- `mfsrin RT,RB` (R429). -/
def execMfsrin (rt rb : Reg) (s : State) : Result := s.bridge (s.storeSegment rt (srOfAddress (s.readGpr rb)))

end Sys2Proof.Machine
end

