-- ==== Sys2Proof/Machine/Linkage.lean ====
section
/-! DEFINITION. System linkage: `sc`, `rfid`, `hrfid` (40_system_linkage.md). -/

namespace Sys2Proof.Machine

/-- `sc LEV`: the System Call interrupt, with the address of the following instruction (R320, R488). -/
def execSc (lev : Bool) (s : State) : Result := .next (s.takeInterrupt (.systemCall lev) (s.cia + 4) 0)

/-- `rfid` (R321). -/
def execRfid (s : State) : Result :=
  s.privileged (.next (s.returnTo (rfidMsr s.cfg s.msr s.spr.srr1) s.spr.srr0))

/-- `hrfid` (R322, D35). -/
def execHrfid (s : State) : Result :=
  s.hypervisorOnly (.next (s.returnTo (hrfidMsr s.cfg s.msr s.spr.hsrr1) s.spr.hsrr0))

end Sys2Proof.Machine
end

