-- ==== Sys2Proof/Machine/MsrMoves.lean ====
section
/-! DEFINITION. Moves to and from the MSR: `mtmsrd`, `mfmsr`, `mtmsr` (41_move_system_regs.md). -/

namespace Sys2Proof.Machine

/-- The state after the MSR is replaced by an instruction that goes on at CIA + 4. -/
def State.withMsr (s : State) (m : Word) : State := { s.advance with msr := m }

/-- CIA is 2^32 - 4, where changing MSR[SF] makes the next address undefined (R143). -/
def State.atWrap (s : State) : Bool := s.cia == 0xFFFFFFFC

/-- `mtmsrd` with L=0: the new MSR. Changing SF at 2^32 - 4 violates R343 and R631 note 10, which item 35 of
93_implementation_defined.md refuses; with the parameter `sfWrapFree` the next instruction address is any value, as R143 says.
Elsewhere leaving 64-bit mode must keep the effective address of the next instruction (R631 note 10). -/
def State.moveMsrd (s : State) (m : Word) : Result :=
  if (sf m != sf s.msr) && s.atWrap then
    require s.cfg.sfWrapFree .implicitBranch
      (.next ({ s with msr := m, nia := Config.freeWord s.run.draws &&& ~~~(3#64) }.drawn 1))
  else if sf s.msr && !sf m && (0x100000000#64).ule s.cia then .refused .implicitBranch
  else s.alter (s.withMsr m)

/-- `mtmsrd RS,L` (R343). -/
def execMtmsrd (rs : Reg) (l : Bool) (s : State) : Result :=
  s.privileged
    (if l then .next (s.withMsr (mtmsrL1 s.msr (s.readGpr rs)))
     else s.moveMsrd (mtmsrdMsr s.cfg s.msr (s.readGpr rs)))

/-- `mfmsr RT` (R345). -/
def execMfmsr (rt : Reg) (s : State) : Result := s.privileged (.next (s.advance.setGpr rt s.msr))

/-- `mtmsr RS,L` (R346). -/
def execMtmsr (rs : Reg) (l : Bool) (s : State) : Result :=
  s.optional s.cfg.hasMtmsr <| s.privileged
    (if l then .next (s.withMsr (mtmsrL1 s.msr (s.readGpr rs)))
     else s.alter (s.withMsr (mtmsrMsr s.cfg s.msr (s.readGpr rs))))

end Sys2Proof.Machine
end

