-- ==== Sys2Proof/WellFormed.lean ====
section
/-! DEFINITION. The valid instruction forms (R295, 30_encoding.md). Operand ranges are carried by the types of the fields;
an instruction in invalid form still decodes, and executing it is the Illegal Instruction interrupt (D34). -/

namespace Sys2Proof

/-- A register number is odd: bit 4 of its field is 1 (R410, R411). -/
def Reg.isOdd (r : Reg) : Bool := r.getLsbD 0

/-- The form `lq RT,DQ(RA)` is valid: RT even and RT ≠ RA (R295). -/
def lqFormOk (rt ra : Reg) : Bool := !Reg.isOdd rt && decide (rt ≠ ra)

/-- The form `stq RS,DS(RA)` is valid: RS even (R295). -/
def stqFormOk (rs : Reg) : Bool := !Reg.isOdd rs

/-- The instruction is in a valid form: the invalid forms that Book III names are those of `lq` and `stq` (R295). -/
def Instr.wellFormed : Instr → Bool
  | .lq rt _ ra => lqFormOk rt ra
  | .stq rs _ _ => stqFormOk rs
  | .sc _ | .rfid | .hrfid | .mtspr _ _ | .mfspr _ _ | .mtmsrd _ _ | .mfmsr _ | .mtmsr _ _
  | .slbie _ | .slbia | .slbmte _ _ | .slbmfev _ _ | .slbmfee _ _
  | .tlbie _ _ | .tlbiel _ _ | .tlbia | .tlbsync
  | .mtsr _ _ | .mtsrin _ _ | .mfsr _ _ | .mfsrin _ _ | .ptesync => true

end Sys2Proof
end

