-- ==== Sys2Proof/Machine/Quad.lean ====
section
/-! DEFINITION. Load and Store Quadword (44_optional_storage.md, section 1). -/

namespace Sys2Proof.Machine

/-- The register after an even one: RT+1, RS+1 (R410, R411). -/
def pairOf (r : Reg) : Reg := r ||| 1

/-- DSISR of the Alignment interrupt of `lq`, as a D-form instruction; bits 27:31 are undefined (D44, R475). -/
def lqDsisr (rt : Reg) (dq : BitVec 12) (ra : Reg) (n : Nat) : Half :=
  alignDsisrD (encode (.lq rt dq ra)) ((Config.freeHalf n).setWidth 5)

/-- DSISR of the Alignment interrupt of `stq`; bits 27:31 are undefined (R412, R475). -/
def stqDsisr (rs : Reg) (ds : BitVec 14) (ra : Reg) (n : Nat) : Half :=
  alignDsisrDs (encode (.stq rs ds ra)) ((Config.freeHalf n).setWidth 5)

/-- The order of tests common to `lq` and `stq`: option, privilege, form, alignment (R410, R411). -/
def State.quadTests (s : State) (formOk : Bool) (dsisr : Nat → Half) (ea : Word) (f : Result) : Result :=
  s.optional s.cfg.hasLqstq <| s.privileged <|
    if !formOk then s.raise .illegal
    else if !aligned16 ea then .next ((s.drawn 1).alignment (dsisr s.run.draws) ea)
    else f

/-- The effect of `lq` once the operand is accessible: lower address first (R410, D43). -/
def State.loadQuad (s : State) (rt : Reg) (ra : RealAddr) (ea : Word) : State :=
  ((s.advance.setGpr rt (s.readDw ra)).setGpr (pairOf rt) (s.readDw (ra + 8))).withOperand ea

/-- The effect of `stq` once the operand is accessible: lower address first (R411, D43). -/
def State.storeQuad (s : State) (rs : Reg) (ra : RealAddr) (ea : Word) : State :=
  (((s.advance.writeDw ra (s.readGpr rs)).writeDw (ra + 8) (s.readGpr (pairOf rs))).loseReservation ra).withOperand ea

/-- `lq RT,DQ(RA)` (R410, R412). -/
def execLq (rt : Reg) (dq : BitVec 12) (ra : Reg) (s : State) : Result :=
  let ea := lqEa s dq ra
  s.quadTests (lqFormOk rt ra) (lqDsisr rt dq ra) ea <|
    s.overflowTest false ea <| (s.dataAccess (.quad false) ea 16).andThen fun a t => .next (t.loadQuad rt a ea)

/-- `stq RS,DS(RA)` (R411, R412). -/
def execStq (rs : Reg) (ds : BitVec 14) (ra : Reg) (s : State) : Result :=
  let ea := stqEa s ds ra
  s.quadTests (stqFormOk rs) (stqDsisr rs ds ra) ea <|
    s.overflowTest true ea <| (s.dataAccess (.quad true) ea 16).andThen fun a t => s.alter (t.storeQuad rs a ea)

end Sys2Proof.Machine
end

