-- ==== Sys2Proof/Machine/SprMoves.lean ====
section
/-! DEFINITION. Moves to and from Special Purpose Registers: `mtspr`, `mfspr` (R340 to R342), over the table of R66. -/

namespace Sys2Proof.Machine

/-- The Special Purpose Registers of R66; `pmc i` is PMC(i+1). -/
inductive Spr where
  | xer | lr | ctr | dsisr | dar | dec | sdr1 | srr0 | srr1 | accr | ctrl | sprg0 | sprg1 | sprg2 | sprg3 | ear | tbl | tbu
  | pvr | hsprg0 | hsprg1 | purr | hdec | rmor | hrmor | hsrr0 | hsrr1 | lpcr | lpidr | mmcra | pmc (i : Fin 6) | mmcr0
  | siar | sdar | mmcr1 | dabr | dabrx | pir
  deriving DecidableEq, Repr

/-- The privilege columns of R66. -/
inductive Privilege where
  | no
  | yes
  | hypv
  deriving DecidableEq, Repr

/-- The Performance Monitor registers by the low-order four bits of their number (R64). -/
def perfSpr : Nat → Option Spr
  | 2 => some .mmcra
  | 3 => some (.pmc 0)
  | 4 => some (.pmc 1)
  | 5 => some (.pmc 2)
  | 6 => some (.pmc 3)
  | 7 => some (.pmc 4)
  | 8 => some (.pmc 5)
  | 11 => some .mmcr0
  | 12 => some .siar
  | 13 => some .sdar
  | 14 => some .mmcr1
  | _ => none

/-- A register with its privilege, if the option that provides it is present. -/
def provided (has : Bool) (r : Option Spr) (p : Privilege) : Option (Spr × Privilege) :=
  if has then r.map fun x => (x, p) else none

/-- The registers that have the same number and a defined privilege in both columns of R66: write privilege, then read
privilege. -/
def commonSpr : Nat → Option (Spr × Privilege × Privilege)
  | 1 => some (.xer, .no, .no)
  | 8 => some (.lr, .no, .no)
  | 9 => some (.ctr, .no, .no)
  | 18 => some (.dsisr, .yes, .yes)
  | 19 => some (.dar, .yes, .yes)
  | 22 => some (.dec, .yes, .yes)
  | 25 => some (.sdr1, .hypv, .yes)
  | 26 => some (.srr0, .yes, .yes)
  | 27 => some (.srr1, .yes, .yes)
  | 29 => some (.accr, .yes, .yes)
  | 272 => some (.sprg0, .yes, .yes)
  | 273 => some (.sprg1, .yes, .yes)
  | 274 => some (.sprg2, .yes, .yes)
  | 275 => some (.sprg3, .yes, .yes)
  | 304 => some (.hsprg0, .hypv, .hypv)
  | 305 => some (.hsprg1, .hypv, .hypv)
  | 309 => some (.purr, .hypv, .yes)
  | 310 => some (.hdec, .hypv, .yes)
  | 312 => some (.rmor, .hypv, .hypv)
  | 313 => some (.hrmor, .hypv, .hypv)
  | 314 => some (.hsrr0, .hypv, .hypv)
  | 315 => some (.hsrr1, .hypv, .hypv)
  | 318 => some (.lpcr, .hypv, .hypv)
  | 319 => some (.lpidr, .hypv, .hypv)
  | 1013 => some (.dabr, .hypv, .yes)
  | 1015 => some (.dabrx, .hypv, .yes)
  | _ => none

/-- The defined `mtspr` numbers (R66, R340). -/
def sprForWrite (c : Params) (spr : BitVec 10) : Option (Spr × Privilege) :=
  match commonSpr spr.toNat with
  | some (r, p, _) => some (r, p)
  | none =>
    match spr.toNat with
    | 152 => some (.ctrl, .yes)
    | 282 => provided c.hasEar (some .ear) .hypv
    | 284 => some (.tbl, .hypv)
    | 285 => some (.tbu, .hypv)
    | n => if 784 ≤ n ∧ n < 800 then provided c.hasPmm (perfSpr (n - 784)) .yes else none

/-- The defined `mfspr` numbers (R66, R341). -/
def sprForRead (c : Params) (spr : BitVec 10) : Option (Spr × Privilege) :=
  match commonSpr spr.toNat with
  | some (r, _, p) => some (r, p)
  | none =>
    match spr.toNat with
    | 136 => some (.ctrl, .no)
    | 259 => some (.sprg3, .no)
    | 282 => provided c.hasEar (some .ear) .yes
    | 287 => some (.pvr, .yes)
    | 1023 => some (.pir, .yes)
    | n => if 768 ≤ n ∧ n < 784 then provided c.hasPmm (perfSpr (n - 768)) .no
           else if 784 ≤ n ∧ n < 800 then provided c.hasPmm (perfSpr (n - 784)) .yes else none

/-- An SPR number that is not defined for the instruction (R342, D36): spr[0] is the bit of weight 16. Where R342's alternative
is undefined or boundedly undefined results, there is no successor state (items 30, 31, 32). -/
def State.undefinedSpr (s : State) (spr : BitVec 10) : Result :=
  match s.cfg.badSprPolicy with
  | .illegal => s.raise .illegal
  | .byCase => if spr.getLsbD 4 && s.problem then s.raise .privileged else s.raise .illegal
  | .alternative => if spr.getLsbD 4 && s.problem then s.raise .privileged else .refused .undefinedSpr

/-- The privilege test of a move to or from an SPR (R340, R341, D18, D38). -/
def State.sprPrivilege (s : State) (p : Privilege) (f : Result) : Result :=
  match p with
  | .no => f
  | .yes => s.privileged f
  | .hypv => s.privileged <|
      if s.supervisor then
        match s.cfg.hvPolicy with
        | .interrupt => s.raise .privileged
        | .noop => .next s.advance
      else f

/-- SIAR and SDAR are being altered: alerts are armed, or the Trace extensions are setting them (R593, R594, R597). -/
def State.sampleUndefined (s : State) : Bool := s.mmcr0 37 || s.tracing

/-- A write to MMCR0 by which software arms alerts, or disarms them, leaves SIAR and SDAR undefined until the next alert
(R593, R594), or until software writes them while nothing alters them (DESIGN CHOICE, assumption 61). -/
def State.staleSamples (s : State) (v : Word) : Run :=
  let armed := s.mmcr0 37 || bit v 37
  { s.run with siarStale := s.run.siarStale || armed, sdarStale := s.run.sdarStale || armed }

/-- The register with a value written: 32-bit registers take the low-order word, reserved bits are not stored (R340, D16). -/
def State.writeSpr (s : State) (r : Spr) (v : Word) : State :=
  match r with
  | .xer => { s with bookI := { s.bookI with xer := v &&& xerMask } }
  | .lr => { s with bookI := { s.bookI with lr := v } }
  | .ctr => { s with bookI := { s.bookI with ctr := v } }
  | .dsisr => { s with spr := { s.spr with dsisr := low v } }
  | .dar => { s with spr := { s.spr with dar := v } }
  | .dec => { s with time := { s.time with dec := low v } }
  | .sdr1 => { s with spr := { s.spr with sdr1 := v &&& sdr1Mask s.cfg } }
  | .srr0 => { s with spr := { s.spr with srr0 := v } }
  | .srr1 => { s with spr := { s.spr with srr1 := v } }
  | .accr => { s with spr := { s.spr with accr := v &&& accrMask } }
  | .ctrl => { s with spr := { s.spr with ctrl := low v &&& ctrlMask } }
  | .sprg0 => { s with spr := { s.spr with sprg0 := v } }
  | .sprg1 => { s with spr := { s.spr with sprg1 := v } }
  | .sprg2 => { s with spr := { s.spr with sprg2 := v } }
  | .sprg3 => { s with spr := { s.spr with sprg3 := v } }
  | .ear => { s with spr := { s.spr with ear := low v &&& earMask } }
  | .tbl => { s with time := { s.time with tb := high s.time.tb ++ low v } }
  | .tbu => { s with time := { s.time with tb := low v ++ low s.time.tb } }
  | .pvr => s
  | .hsprg0 => { s with spr := { s.spr with hsprg0 := v } }
  | .hsprg1 => { s with spr := { s.spr with hsprg1 := v } }
  | .purr => { s with time := { s.time with purr := v } }
  | .hdec => { s with time := { s.time with hdec := low v } }
  | .rmor => { s with spr := { s.spr with rmor := v &&& rmorMask } }
  | .hrmor => { s with spr := { s.spr with hrmor := v &&& rmorMask } }
  | .hsrr0 => { s with spr := { s.spr with hsrr0 := v } }
  | .hsrr1 => { s with spr := { s.spr with hsrr1 := v } }
  | .lpcr => { s with spr := { s.spr with lpcr := v &&& lpcrMask s.cfg } }
  | .lpidr => { s with spr := { s.spr with lpidr := low v } }
  | .mmcra => { s with pm := { s.pm with mmcra := v &&& mmcraMask } }
  | .pmc i => { s with pm := { s.pm with pmc := s.pm.pmc.set i.val (low v) i.isLt } }
  | .mmcr0 => { s with pm := { s.pm with mmcr0 := v &&& mmcr0Mask }, run := s.staleSamples v }
  | .siar => { s with pm := { s.pm with siar := v }, run := { s.run with siarStale := s.run.siarStale && s.sampleUndefined } }
  | .sdar => { s with pm := { s.pm with sdar := v }, run := { s.run with sdarStale := s.run.sdarStale && s.sampleUndefined } }
  | .mmcr1 => { s with pm := { s.pm with mmcr1 := v } }
  | .dabr => { s with spr := { s.spr with dabr := v } }
  | .dabrx => { s with spr := { s.spr with dabrx := v &&& dabrxMask } }
  | .pir => s

/-- A read of SIAR gives an undefined value: also once alerts have been disarmed without one (R593). -/
def State.siarUndefined (s : State) : Bool := s.sampleUndefined || s.run.siarStale

/-- A read of SDAR gives an undefined value (R594). -/
def State.sdarUndefined (s : State) : Bool := s.sampleUndefined || s.run.sdarStale

/-- The value a move from the register gives: 32-bit registers in the low-order word, the rest zero (R341). -/
def State.readSpr (s : State) : Spr → Word
  | .xer => s.bookI.xer
  | .lr => s.bookI.lr
  | .ctr => s.bookI.ctr
  | .dsisr => zext s.spr.dsisr
  | .dar => s.spr.dar
  | .dec => zext s.time.dec
  | .sdr1 => s.spr.sdr1
  | .srr0 => s.spr.srr0
  | .srr1 => s.spr.srr1
  | .accr => s.spr.accr
  | .ctrl => zext (s.spr.ctrl ||| (s.cfg.ctrl030 ++ 0#1))
  | .sprg0 => s.spr.sprg0
  | .sprg1 => s.spr.sprg1
  | .sprg2 => s.spr.sprg2
  | .sprg3 => s.spr.sprg3
  | .ear => zext s.spr.ear
  | .tbl => zext (low s.time.tb)
  | .tbu => zext (high s.time.tb)
  | .pvr => zext s.cfg.pvr
  | .hsprg0 => s.spr.hsprg0
  | .hsprg1 => s.spr.hsprg1
  | .purr => s.time.purr
  | .hdec => zext s.time.hdec
  | .rmor => s.spr.rmor
  | .hrmor => s.spr.hrmor
  | .hsrr0 => s.spr.hsrr0
  | .hsrr1 => s.spr.hsrr1
  | .lpcr => s.spr.lpcr
  | .lpidr => zext s.spr.lpidr
  | .mmcra => s.pm.mmcra
  | .pmc i => zext s.pm.pmc[i.val]
  | .mmcr0 => s.pm.mmcr0
  | .siar => if s.siarUndefined then Config.freeWord s.run.draws else s.pm.siar
  | .sdar => if s.sdarUndefined then Config.freeWord s.run.draws else s.pm.sdar
  | .mmcr1 => s.pm.mmcr1
  | .dabr => s.spr.dabr
  | .dabrx => s.spr.dabrx
  | .pir => zext s.cfg.pir

/-- How many undefined values a move from the register draws. -/
def State.sprDraws (s : State) : Spr → Nat
  | .siar => if s.siarUndefined then 1 else 0
  | .sdar => if s.sdarUndefined then 1 else 0
  | _ => 0

/-- The values that software must not write: LPES = 0b10 (R42), an RMOR or HRMOR that is no multiple of its granularity, an
HRMOR beyond 2^m (R44, R45), another SDR1 while translation is enabled (R631 note 5). -/
def State.sprRefusal (s : State) (r : Spr) (v : Word) : Option Refusal :=
  match r with
  | .lpcr => if lpes0 v && !lpes1 v then some .lpesReserved else none
  | .rmor => if v &&& ((1#64 <<< rmorBits s.cfg) - 1) = 0 then none else some .rmorUnsupported
  | .hrmor =>
    if v &&& ((1#64 <<< s.cfg.hrmorBits) - 1) = 0 ∧ v &&& rmorMask &&& ~~~realMask s.cfg = 0 then none
    else some .hrmorUnsupported
  | .sdr1 =>
    if (ir s.msr || dr s.msr) && v &&& sdr1Mask s.cfg != s.spr.sdr1 then some .sdr1Translating else none
  | _ => none

/-- What a write sets off in the Performance Monitor: conditions and events are evaluated after a write to one of its
registers or to the Time Base (R590); `old` is the Time Base before. -/
def State.afterSprWrite (s : State) (r : Spr) (old : Word) (p : Sample) : State :=
  match r with
  | .tbl | .tbu => s.pmEvaluate (s.tbEvent old s.time.tb) p
  | .mmcra | .pmc _ | .mmcr0 | .siar | .sdar | .mmcr1 => s.pmEvaluate false p
  | _ => s

/-- Writing the register can change the real address of the next instruction (R632). -/
def Spr.altersFetch : Spr → Bool
  | .lpcr | .rmor | .hrmor | .sdr1 => true
  | _ => false

/-- `SPREG(n) <- v`, and on to the next instruction (R340). -/
def State.moveToSpr (s : State) (r : Spr) (v : Word) : Result :=
  match s.sprRefusal r v with
  | some e => .refused e
  | none =>
    let t := (s.advance.writeSpr r v).afterSprWrite r s.time.tb ⟨s.cia, s.msr, none⟩
    if r.altersFetch then s.alter t else .next t

/-- `mtspr SPR,RS` (R340, R342). -/
def execMtspr (spr : BitVec 10) (rs : Reg) (s : State) : Result :=
  match sprForWrite s.cfg spr with
  | some (r, p) => s.sprPrivilege p (s.moveToSpr r (s.readGpr rs))
  | none => s.undefinedSpr spr

/-- `mfspr RT,SPR` (R341, R342). -/
def execMfspr (rt : Reg) (spr : BitVec 10) (s : State) : Result :=
  match sprForRead s.cfg spr with
  | some (r, p) => s.sprPrivilege p (.next ((s.advance.setGpr rt (s.readSpr r)).drawn (s.sprDraws r)))
  | none => s.undefinedSpr spr

end Sys2Proof.Machine
end

