-- ==== Sys2Proof/Machine/Tlb.lean ====
section
/-! DEFINITION. TLB management and `ptesync` (43_tlb_management.md). -/

namespace Sys2Proof.Machine

/-- The page number compared: VPN[32:79-p], of the low-order 48 bits of a virtual address (R390). -/
def comparedPage (c : Params) (large : Bool) (va48 : BitVec 48) : BitVec 48 := va48 >>> pageBits c large

/-- The entry is one that `tlbie` and `tlbiel` name: VPN[32:79-p] = (RB)[16:63-p] and the page size of L (R390, R391). -/
def TlbEntry.named (c : Params) (e : TlbEntry) (rb : Word) (l : Bool) : Bool :=
  e.large == l && ((e.vpn <<< pageBits c l).setWidth 48 >>> pageBits c l) == comparedPage c l (rb.setWidth 48)

/-- The state without the TLB entries that RB and L name (R390, R391). -/
def State.invalidateTlb (s : State) (rb : Word) (l : Bool) : State :=
  { s with tlb := s.tlb.filter fun e => !e.named s.cfg rb l }

/-- The order of tests common to the TLB instructions: option, privilege (D35). -/
def State.tlbInstruction (s : State) (has : Bool) (f : Result) : Result :=
  s.optional (s.cfg.hasTlb && has) (s.hypervisorOnly f)

/-- `tlbie RB,L` on this processor (R390). -/
def execTlbie (rb : Reg) (l : Bool) (s : State) : Result :=
  let b := s.readGpr rb
  s.tlbInstruction true <|
    require (sf s.msr) .wrongMode <|
    require (b &&& mask 0 15 == 0) .reservedOperandBits <|
    s.alter (s.advance.invalidateTlb b l)

/-- `tlbiel RB,L` (R391). -/
def execTlbiel (rb : Reg) (l : Bool) (s : State) : Result :=
  let b := s.readGpr rb
  s.tlbInstruction s.cfg.hasTlbiel <|
    require (sf s.msr) .wrongMode <|
    require (b &&& (mask 0 15 ||| mask 52 63) == 0) .reservedOperandBits <|
    s.alter (s.advance.invalidateTlb b l)

/-- `tlbia` (R392). -/
def execTlbia (s : State) : Result :=
  s.tlbInstruction s.cfg.hasTlbia (s.alter { s.advance with tlb := [] })

/-- `tlbsync`: an ordering effect only (R396). -/
def execTlbsync (s : State) : Result := s.tlbInstruction s.cfg.hasTlbsync (.next s.advance)

/-- `ptesync`: every Reference and Change update and every store is in storage already, so it only goes on (R398). -/
def execPtesync (s : State) : Result := .next s.advance

end Sys2Proof.Machine
end

