-- ==== Sys2Proof/Machine/Dispatch.lean ====
section
/-! DEFINITION. The meaning of each instruction: one arm, one direct call. -/

namespace Sys2Proof.Machine

/-- The effect of an instruction. -/
def exec (i : Instr) (s : State) : Host.Outcome State Fault Refusal :=
  match i with
  | .sc lev => Sys2Proof.Machine.execSc lev s
  | .rfid => Sys2Proof.Machine.execRfid s
  | .hrfid => Sys2Proof.Machine.execHrfid s
  | .mtspr spr rs => Sys2Proof.Machine.execMtspr spr rs s
  | .mfspr rt spr => Sys2Proof.Machine.execMfspr rt spr s
  | .mtmsrd rs l => Sys2Proof.Machine.execMtmsrd rs l s
  | .mfmsr rt => Sys2Proof.Machine.execMfmsr rt s
  | .mtmsr rs l => Sys2Proof.Machine.execMtmsr rs l s
  | .slbie rb => Sys2Proof.Machine.execSlbie rb s
  | .slbia => Sys2Proof.Machine.execSlbia s
  | .slbmte rs rb => Sys2Proof.Machine.execSlbmte rs rb s
  | .slbmfev rt rb => Sys2Proof.Machine.execSlbmfev rt rb s
  | .slbmfee rt rb => Sys2Proof.Machine.execSlbmfee rt rb s
  | .tlbie rb l => Sys2Proof.Machine.execTlbie rb l s
  | .tlbiel rb l => Sys2Proof.Machine.execTlbiel rb l s
  | .tlbia => Sys2Proof.Machine.execTlbia s
  | .tlbsync => Sys2Proof.Machine.execTlbsync s
  | .lq rt dq ra => Sys2Proof.Machine.execLq rt dq ra s
  | .stq rs ds ra => Sys2Proof.Machine.execStq rs ds ra s
  | .mtsr sr rs => Sys2Proof.Machine.execMtsr sr rs s
  | .mtsrin rs rb => Sys2Proof.Machine.execMtsrin rs rb s
  | .mfsr rt sr => Sys2Proof.Machine.execMfsr rt sr s
  | .mfsrin rt rb => Sys2Proof.Machine.execMfsrin rt rb s
  | .ptesync => Sys2Proof.Machine.execPtesync s

end Sys2Proof.Machine
end

