-- ==== Sys2Proof/Machine/Boundary.lean ====
section
/-! DEFINITION. What happens at an instruction boundary (R501): System Reset, Machine Check, a maskable interrupt, or the next
instruction. -/

namespace Sys2Proof.Machine

/-- The instruction of a fetched word is executed (R501 steps 5 to 8); `old` is the state at the start of the instruction. -/
def State.runWord (t : State) (w : Half) (old : State) (i : Input) : Result :=
  match decode w with
  | .ok x => finishResult (exec x t) old i (executedInstr x)
  | .error _ => t.runForeign w old i

/-- Fetch, decode, execute (R501 steps 4 to 8), from an address that does not depend on an alteration that is not synchronized
yet (R632). -/
def State.instruction (s : State) (i : Input) : Result :=
  require s.settled .implicitBranch <|
    match s.fetch with
    | .ok w t => t.runWord w s i
    | .trap t => .next (t.elapse s i none)
    | .refuse r => .refused r

/-- The state at an instruction boundary goes on (R501 steps 1 to 8), `i` being what the environment has done; but for a reset or a
Machine Check not where software has left LPCR[RMI] at 1 against R158. -/
def State.boundary (s : State) (i : Input) : Result :=
  match s.pend.sysReset with
  | some k => .next ((s.systemReset k).elapse s i none)
  | none =>
    if s.checkstop then .fault .checkstop
    else match s.pend.machineCheck with
      | some recoverable => .next ((s.takeMachineCheck recoverable).elapse s i none)
      | none =>
        require s.rmiProper .realModeInhibited <|
          match s.pendingInterrupts with
          | k :: ks => .next (((s.drawn 1).takePending (pickOne k ks s.run.draws)).elapse s i none)
          | [] => s.instruction i

end Sys2Proof.Machine
end

