-- ==== Sys2Proof/Machine/Step.lean ====
section
/-! DEFINITION. The step (R501), and placing an instruction where the next step fetches. -/

namespace Sys2Proof.Machine

/-- One step (R501). -/
def step (s : State) : Host.Outcome State Fault Refusal := s.present.boundary s.input

/-- The state with an instruction word stored where the next step fetches its instruction. -/
def State.withFetchWord (s : State) (nbits w : Nat) : State :=
  match s.fetchAddress s.nia with
  | some ra =>
    let b (k : Nat) : Byte := ((BitVec.ofNat 32 (w % 2 ^ nbits)).extractLsb' k 8)
    (((s.setByte ra (b 24)).setByte (ra + 1) (b 16)).setByte (ra + 2) (b 8)).setByte (ra + 3) (b 0)
  | none => s

end Sys2Proof.Machine
end

