-- ==== Sys2Proof/Safety.lean ====
section
/-! DEFINITION. The terms in which statements about the machine are made: the rows of the opcode table (R291), the invariant
that every step keeps, the resources that privilege protects (R33), what an instruction leaves alone. -/

namespace Sys2Proof

/-! ### The rows of the opcode table (R291, 30_encoding.md) -/

/-- The column `mask`. -/
def Instr.rowMask : Instr → Half
  | .sc _ => 0xFC000002
  | .lq _ _ _ => 0xFC000000
  | .stq _ _ _ => 0xFC000003
  | .ptesync => 0xFC6007FE
  | .rfid | .hrfid | .mtspr _ _ | .mfspr _ _ | .mtmsrd _ _ | .mfmsr _ | .mtmsr _ _ | .slbie _ | .slbia | .slbmte _ _
  | .slbmfev _ _ | .slbmfee _ _ | .tlbie _ _ | .tlbiel _ _ | .tlbia | .tlbsync | .mtsr _ _ | .mtsrin _ _ | .mfsr _ _
  | .mfsrin _ _ => 0xFC0007FE

/-- The column `match`. -/
def Instr.rowMatch : Instr → Half
  | .sc _ => 0x44000002
  | .rfid => 0x4C000024
  | .hrfid => 0x4C000224
  | .mtspr _ _ => 0x7C0003A6
  | .mfspr _ _ => 0x7C0002A6
  | .mtmsrd _ _ => 0x7C000164
  | .mfmsr _ => 0x7C0000A6
  | .mtmsr _ _ => 0x7C000124
  | .slbie _ => 0x7C000364
  | .slbia => 0x7C0003E4
  | .slbmte _ _ => 0x7C000324
  | .slbmfev _ _ => 0x7C0006A6
  | .slbmfee _ _ => 0x7C000726
  | .tlbie _ _ => 0x7C000264
  | .tlbiel _ _ => 0x7C000224
  | .tlbia => 0x7C0002E4
  | .tlbsync => 0x7C00046C
  | .lq _ _ _ => 0xE0000000
  | .stq _ _ _ => 0xF8000002
  | .mtsr _ _ => 0x7C0001A4
  | .mtsrin _ _ => 0x7C0001E4
  | .mfsr _ _ => 0x7C0004A6
  | .mfsrin _ _ => 0x7C000526
  | .ptesync => 0x7C4004AC

/-- The bits of a word that hold an operand, from the instruction's format (R281 to R284). -/
def Instr.operandBits : Instr → Half
  | .sc _ => 0x00000020
  | .rfid | .hrfid | .slbia | .tlbia | .tlbsync | .ptesync => 0
  | .mtspr _ _ | .mfspr _ _ => 0x03FFF800
  | .mtmsrd _ _ | .mtmsr _ _ => 0x03E10000
  | .mfmsr _ => 0x03E00000
  | .slbie _ => 0x0000F800
  | .slbmte _ _ | .slbmfev _ _ | .slbmfee _ _ | .mtsrin _ _ | .mfsrin _ _ => 0x03E0F800
  | .tlbie _ _ | .tlbiel _ _ => 0x0020F800
  | .lq _ _ _ => 0x03FFFFF0
  | .stq _ _ _ => 0x03FFFFFC
  | .mtsr _ _ | .mfsr _ _ => 0x03EF0000

/-- The bits of a word that the instruction's meaning depends on; the others are reserved (R285). -/
def Instr.usedBits (i : Instr) : Half := i.rowMask ||| i.operandBits

/-- The column `Priv` holds P (R291). -/
def Instr.isPrivileged : Instr → Bool
  | .rfid | .mtmsrd _ _ | .mfmsr _ | .mtmsr _ _ | .slbie _ | .slbia | .slbmte _ _ | .slbmfev _ _ | .slbmfee _ _
  | .lq _ _ _ | .stq _ _ _ | .mtsr _ _ | .mtsrin _ _ | .mfsr _ _ | .mfsrin _ _ => true
  | .sc _ | .hrfid | .mtspr _ _ | .mfspr _ _ | .tlbie _ _ | .tlbiel _ _ | .tlbia | .tlbsync | .ptesync => false

/-- The column `Priv` holds H (R291). -/
def Instr.isHypervisor : Instr → Bool
  | .hrfid | .tlbie _ _ | .tlbiel _ _ | .tlbia | .tlbsync => true
  | .sc _ | .rfid | .mtspr _ _ | .mfspr _ _ | .mtmsrd _ _ | .mfmsr _ | .mtmsr _ _ | .slbie _ | .slbia | .slbmte _ _
  | .slbmfev _ _ | .slbmfee _ _ | .lq _ _ _ | .stq _ _ _ | .mtsr _ _ | .mtsrin _ _ | .mfsr _ _ | .mfsrin _ _
  | .ptesync => false

/-- The implementation provides the instruction: the column `Opt` (R291, R300); an absent TLB takes its sub-options with it. -/
def Instr.isProvided (c : Params) : Instr → Bool
  | .mtmsr _ _ => c.hasMtmsr
  | .lq _ _ _ | .stq _ _ _ => c.hasLqstq
  | .mtsr _ _ | .mtsrin _ _ | .mfsr _ _ | .mfsrin _ _ => c.hasBridge
  | .tlbie _ _ => c.hasTlb
  | .tlbiel _ _ => c.hasTlb && c.hasTlbiel
  | .tlbia => c.hasTlb && c.hasTlbia
  | .tlbsync => c.hasTlb && c.hasTlbsync
  | .sc _ | .rfid | .hrfid | .mtspr _ _ | .mfspr _ _ | .mtmsrd _ _ | .mfmsr _ | .slbie _ | .slbia | .slbmte _ _
  | .slbmfev _ _ | .slbmfee _ _ | .ptesync => true

/-- The bounds that R8 sets on the parameters, and a cache block that is no larger than a page. -/
def Params.ok (c : Params) : Prop :=
  c.realBits ≤ 62 ∧ 65 ≤ c.virtualBits ∧ c.virtualBits ≤ 80 ∧ 13 ≤ c.largePageBits ∧ c.largePageBits ≤ 28
    ∧ 32 ≤ c.slbEntries ∧ 12 ≤ c.hrmorBits ∧ c.hrmorBits ≤ 26
    ∧ (∀ k : Fin 8, 12 ≤ c.rmlsTable[k] ∧ c.rmlsTable[k] ≤ c.realBits)
    ∧ 2 * c.processors ≤ 2 ^ c.lpidBits ∧ c.htabSizeMax ≤ 28 ∧ c.blockLog2 ≤ 12

namespace Machine

/-! ### The invariant of the machine -/

/-- Problem state runs with external interrupts enabled and both relocations on (R38, 10_state.md). -/
def problemOk (m : Word) : Bool := !pr m || (ee m && ir m && dr m)

/-- The reserved bits of every register read as 0 (R17, D16). -/
structure State.ReservedZero (s : State) : Prop where
  msr : s.msr &&& ~~~msrMask s.cfg = 0
  xer : s.bookI.xer &&& ~~~xerMask = 0
  lpcr : s.spr.lpcr &&& ~~~lpcrMask s.cfg = 0
  rmor : s.spr.rmor &&& ~~~rmorMask = 0
  hrmor : s.spr.hrmor &&& ~~~rmorMask = 0
  ctrl : s.spr.ctrl &&& ~~~ctrlMask = 0
  sdr1 : s.spr.sdr1 &&& ~~~sdr1Mask s.cfg = 0
  accr : s.spr.accr &&& ~~~accrMask = 0
  dabrx : s.spr.dabrx &&& ~~~dabrxMask = 0
  ear : s.spr.ear &&& ~~~earMask = 0
  mmcr0 : s.pm.mmcr0 &&& ~~~mmcr0Mask = 0
  mmcra : s.pm.mmcra &&& ~~~mmcraMask = 0

/-- What every step keeps: storage is canonical, NIA is a word address (R31), PR=1 has EE, IR and DR with it (R38), the SLB has
its number of entries (R60), and the reserved bits of every register read as 0. -/
structure State.Inv (s : State) : Prop where
  mem : Memory.wf s.mem = true
  nia : s.nia &&& 3 = 0
  problem : problemOk s.msr = true
  slb : s.slb.length = s.cfg.slbEntries
  reserved : s.ReservedZero

/-! ### What privilege protects (R33, R34, 10_state.md) -/

/-- The hypervisor resources that are registers, but for MSR[ME]: LPCR, RMOR, HRMOR, LPIDR, SDR1, EAR, HSRR0, HSRR1, HSPRG0,
HSPRG1, DABR, DABRX, the Time Base, HDEC, PURR and the implementation's constants (R33). -/
def State.sameHypervisorRegisters (s t : State) : Prop :=
  t.spr.lpcr = s.spr.lpcr ∧ t.spr.rmor = s.spr.rmor ∧ t.spr.hrmor = s.spr.hrmor ∧ t.spr.lpidr = s.spr.lpidr
    ∧ t.spr.sdr1 = s.spr.sdr1 ∧ t.spr.ear = s.spr.ear ∧ t.spr.hsrr0 = s.spr.hsrr0 ∧ t.spr.hsrr1 = s.spr.hsrr1
    ∧ t.spr.hsprg0 = s.spr.hsprg0 ∧ t.spr.hsprg1 = s.spr.hsprg1 ∧ t.spr.dabr = s.spr.dabr ∧ t.spr.dabrx = s.spr.dabrx
    ∧ t.time.tb = s.time.tb ∧ t.time.hdec = s.time.hdec ∧ t.time.purr = s.time.purr ∧ t.cfg = s.cfg

/-- Everything that a program in problem state cannot alter: all but its General Purpose Registers, XER, LR, CTR and, where an
interrupt is taken, SRR0 and SRR1. -/
def State.sameProtected (s t : State) : Prop :=
  t.bookI = { s.bookI with xer := t.bookI.xer, lr := t.bookI.lr, ctr := t.bookI.ctr }
    ∧ t.spr = { s.spr with srr0 := t.spr.srr0, srr1 := t.spr.srr1 }
    ∧ t.slb = s.slb ∧ t.slbLast = s.slbLast ∧ t.slbGone = s.slbGone ∧ t.tlb = s.tlb ∧ t.mem = s.mem ∧ t.time = s.time ∧ t.pm = s.pm
    ∧ t.pend = s.pend ∧ t.checkstop = s.checkstop ∧ t.cfg = s.cfg

/-- The registers in which an interrupt of kind `k` leaves the processor: execution goes on at its vector with the MSR of
Figure 35 (R452, R456). -/
def State.enteredFrom (t s : State) (k : IntKind) : Prop :=
  t.nia = vector k ∧ t.msr = newMsr s.cfg s.spr.lpcr k s.msr

/-! ### Conditions of an instruction -/

/-- The alteration from `s` to `t` moves neither the instruction itself nor the next one in real storage: each is fetched from
the same real address in either context, or from none in either (R142, R632). -/
def State.noImplicitBranch (s t : State) : Prop :=
  s.fetchAddress s.cia = t.fetchAddress s.cia ∧ s.fetchAddress t.nia = t.fetchAddress t.nia

/-- Privileged state with real addressing mode for data, the processor in Big-Endian mode. -/
def State.realData (s : State) : Prop := pr s.msr = false ∧ dr s.msr = false ∧ le s.msr = false

/-- No Data Address Breakpoint is armed: DABRX[PRIVM] = 0 (R57). -/
def State.breakpointsOff (s : State) : Prop := field s.spr.dabrx 61 3 = 0

/-- The environment does nothing but let time pass, no exception of a system-caused interrupt is waiting, and
LPCR[RMI] is as R158 requires. -/
def State.undisturbed (s : State) : Prop :=
  s.rmiProper = true ∧ s.run.inputs = [] ∧ s.pend.sysReset = none ∧ s.pend.machineCheck = none ∧ s.checkstop = false

/-- Nothing that the Performance Monitor evaluates is enabled: MMCR0[TBEE], [PMC1CE], [PMCjCE] and [TRIGGER] are 0 (R590). -/
def monitorQuiet (mmcr0 : Word) : Prop :=
  bit mmcr0 41 = false ∧ bit mmcr0 48 = false ∧ bit mmcr0 49 = false ∧ bit mmcr0 50 = false

/-- The bits of a register that `mtspr` stores, by SPR number (R340, R17, and the register's own rule). -/
def sprStored (c : Params) (n : Nat) : Word :=
  match n with
  | 1 => xerMask
  | 18 | 22 | 310 | 319 | 787 | 788 | 789 | 790 | 791 | 792 => 0xFFFFFFFF
  | 25 => sdr1Mask c
  | 29 => accrMask
  | 282 => zext earMask
  | 312 | 313 => rmorMask
  | 318 => lpcrMask c
  | 786 => mmcraMask
  | 795 => mmcr0Mask
  | 1015 => dabrxMask
  | _ => ~~~0

/-- The state after a Program interrupt caused by the instruction at CIA, with one of SRR1[43:47] set (R481): SRR0 holds the
address of the instruction, SRR1 the MSR with the cause, and no other register changes. -/
def State.programInterrupt (s : State) (cause : Word) : State :=
  { s with
    nia := 0x700
    msr := newMsr s.cfg s.spr.lpcr .program s.msr
    spr := { s.spr with srr0 := s.cia, srr1 := (s.msr &&& ~~~0x783F0000) ||| cause }
    run := { s.run with trapped := true } }

/-- SRR1[44], Illegal Instruction (R481). -/
def illegalCause : Word := 0x80000

/-- SRR1[45], Privileged Instruction (R481). -/
def privilegedCause : Word := 0x40000

/-- The instruction boundary at which no interrupt intervenes: the environment has acted, nothing that would be taken before
the next instruction is pending (R501), LPCR[RMI] is as R158 requires, and no alteration that is not synchronized yet moves the
instruction (R632). -/
def State.ready (s : State) : Prop :=
  s.present.rmiProper = true ∧ s.present.settled = true ∧ s.present.pend.sysReset = none ∧ s.present.checkstop = false ∧ s.present.pend.machineCheck = none
    ∧ s.present.pendingInterrupts = []

/-- A byte address lies in the `n` bytes from `a`. -/
def within (x a : RealAddr) (n : Nat) : Prop := (x - a).toNat < n

end Machine

end Sys2Proof
end

