-- ==== Sys2Proof/Certificates/Slice0/Obligations.lean ====
section
/-! DEFINITION. The statements for the provers. Each docstring says which rules of spec/ the statement formalises. -/

section Statements

open Sys2Proof Sys2Proof.Machine

/-! ### Encoding -/

/-- Decoding an encoded instruction gives it back, every operand at every value (R282, R290, R291, R292). -/
def Obligations.DecodeEncode : Prop := ∀ i : Instr, decode (encode i) = .ok i

/-- A word is an instruction of a row exactly when `w & mask = match`, no two rows match one word, and reserved fields are
ignored; encoding a decoded word gives the word with its reserved fields cleared (R285, R291; that reserved fields are ignored
is the spec's decision D33). -/
def Obligations.WordsMatchTheirRow : Prop :=
  (∀ (w : Half) (i : Instr), decode w = .ok i → w &&& i.rowMask = i.rowMatch)
    ∧ (∀ (w : Half) (i : Instr), w &&& i.rowMask = i.rowMatch → ∃ j, decode w = .ok j ∧ j.rowMatch = i.rowMatch)
    ∧ (∀ (w r : Half) (i : Instr), decode w = .ok i → decode (w ^^^ (r &&& ~~~i.usedBits)) = .ok i)
    ∧ ∀ (w : Half) (i : Instr), decode w = .ok i → encode i = w &&& i.usedBits

/-- Words written out from the encodings of R291 and R292 decode to the instruction they stand for. -/
def Obligations.SpecWordsDecode : Prop :=
  decodeTableWord 32 0x44000022 = some (.sc true)
    ∧ decodeTableWord 32 0x4C000024 = some .rfid
    ∧ decodeTableWord 32 0x7C6802A6 = some (.mfspr 3 8)
    ∧ decodeTableWord 32 0x7C610164 = some (.mtmsrd 3 true)
    ∧ decodeTableWord 32 0x7C801B24 = some (.slbmte 4 3)
    ∧ decodeTableWord 32 0x7C201A64 = some (.tlbie 3 true)
    ∧ decodeTableWord 32 0xE0860010 = some (.lq 4 1 6)
    ∧ decodeTableWord 32 0xF886FFF2 = some (.stq 4 0x3FFC 6)
    ∧ decodeTableWord 32 0x7C6F01A4 = some (.mtsr 15 3)
    ∧ decodeTableWord 32 0x7C4004AC = some .ptesync

/-! ### The step -/

/-- At a boundary where nothing intervenes, a step is `exec` of the decoded instruction, followed by `finishResult`: counting,
ticks and the exceptions an instruction causes once it has completed. A word that is no instruction of Book III and has no
effect there is what the environment makes of it, in the same frame (R501 steps 4 to 8, R286; log entries 47 and 48 for such
words). -/
def Obligations.StepRunsDecodedInstruction : Prop :=
  (∀ (s t : State) (w : Half) (x : Instr),
    s.ready → s.present.fetch = .ok w t → decode w = .ok x →
      step s = finishResult (exec x t) s.present s.input (executedInstr x))
    ∧ ∀ (s t : State) (w : Half) (e : DecodeError),
      s.ready → s.present.fetch = .ok w t → decode w = .error e → decodeForeign w = none →
        step s = finishResult (execBase (decodeOutside w) w s.input.base t) s.present s.input
          (executedOutside (decodeOutside w) w s.input.base s.present)

/-- In hypervisor real mode the word at NIA is fetched from the four bytes at EA[2:63], ORed with HRMOR[2:63] when EA[0]=0
(whose EA[2:63-m] are zeros, as R154 requires), most significant byte first (R152, R154; that the lowest address is the most
significant byte is the spec's decision D23, log entry 9: R131 says that the source does not state it). -/
def Obligations.FetchInHypervisorRealMode : Prop :=
  ∀ s : State, ir s.msr = false → hv s.msr = true → le s.msr = false →
    (bit s.cia 0 = false → (s.cia.extractLsb' 0 62).toNat < 2 ^ s.cfg.realBits) →
    let a : RealAddr :=
      if bit s.cia 0 then s.cia.extractLsb' 0 62 else s.cia.extractLsb' 0 62 ||| s.spr.hrmor.extractLsb' 0 62
    absentHit s.cfg a 4 = false →
      s.fetch = .ok (s.byte a ++ s.byte (a + 1) ++ s.byte (a + 2) ++ s.byte (a + 3)) s

/-- What a step adds around `exec`: General Purpose Registers, Book I state, SLB, TLB and storage stay as `exec` left them;
so do NIA, MSR and the other SPRs unless a Trace or a Floating-Point Enabled interrupt follows, but for HSRR0 and HSRR1 after
an instruction outside the list of R459 that completes. That HSRR0 and HSRR1 are kept by one that takes an interrupt is R302
for the privilege check; for every other interrupt it is the model's choice (log entry 38; R459 would permit an alteration). The
timers advance by the same number of ticks (R551, R561, R567, R572). How many ticks follow a step is the spec's decision D50; that
PURR advances by one a tick, and that the other timers advance with the Time Base disabled, is the model's choice (D50, log
entry 35). An instruction that leaves LPCR[RMI] at 1 against R158 has no successor state (log entry 57); an access that conflicts
with another (R171, log entry 53) is outside the statement. -/
def Obligations.StepAddsOnlyTimeAndTraps : Prop :=
  ∀ (s t v : State) (w : Half) (x : Instr),
    s.ready → s.present.fetch = .ok w t → decode w = .ok x → exec x t = .next v → attributesDiffer s.present v = false →
      (v.rmiProper = false → step s = .refused .realModeInhibited) ∧ (v.rmiProper = true → ∃ u, step s = .next u
        ∧ u.gpr = v.gpr ∧ u.bookI = v.bookI ∧ u.slb = v.slb ∧ u.slbLast = v.slbLast ∧ u.slbGone = v.slbGone
        ∧ u.tlb = v.tlb ∧ u.mem = v.mem ∧ u.pend = v.pend ∧ u.checkstop = v.checkstop ∧ u.cfg = v.cfg
        ∧ u.spr = { v.spr with srr0 := u.spr.srr0, srr1 := u.spr.srr1, hsrr0 := u.spr.hsrr0, hsrr1 := u.spr.hsrr1 }
        ∧ (((executedInstr x).keepsHsrr = true ∨ (v.run.trapped = true ∧ (executedInstr x).isCall = false)) →
            u.spr.hsrr0 = v.spr.hsrr0 ∧ u.spr.hsrr1 = v.spr.hsrr1)
        ∧ (let n := s.input.ticks.getD v.cfg.ticksPerStep
           u.time.dec = v.time.dec - BitVec.ofNat 32 n ∧ u.time.hdec = v.time.hdec - BitVec.ofNat 32 n
             ∧ u.time.purr = v.time.purr + BitVec.ofNat 64 n
             ∧ u.time.tb = if v.cfg.tbEnabled then v.time.tb + BitVec.ofNat 64 n else v.time.tb)
        ∧ ((v.run.trapped = true ∨ (se s.msr = false
              ∧ ((executedInstr x).changesFe && fpEnabled v.msr v.bookI.fpscr) = false)) →
            u.nia = v.nia ∧ u.msr = v.msr ∧ u.spr.srr0 = v.spr.srr0 ∧ u.spr.srr1 = v.spr.srr1))

/-! ### Invariants -/

/-- Every step keeps the invariant: canonical storage, a word-aligned NIA, PR=1 with EE, IR and DR, an SLB of as many entries as
the implementation has, and reserved register bits that read as 0 (R17, R31, R38, R60; reserved bits by the spec's decision
D16). -/
def Obligations.StepKeepsInvariant : Prop := ∀ s t : State, s.Inv → step s = .next t → t.Inv

/-- The state after reset satisfies the invariant (log entry 2 for the values that the spec does not give). -/
def Obligations.ResetSatisfiesInvariant : Prop := State.reset.Inv

/-- The values that R120 gives the state after reset: MSR is SF and HV with every bit but ME fixed, NIA is 0x100, SRR1[62] is
0, HRMOR is its parameter, so that the first fetch is from real address 0x100 | HRMOR (R120, the spec's decision D22). -/
def Obligations.ResetValues : Prop :=
  State.reset.msr ||| 0x1000 = 0x9000000000001000
    ∧ State.reset.nia = 0x100
    ∧ bit State.reset.spr.srr1 62 = false
    ∧ State.reset.spr.hrmor = Params.default.hrmorReset
    ∧ State.reset.checkstop = false
    ∧ State.reset.fetchAddress State.reset.nia = some (0x100 ||| (Params.default.hrmorReset).extractLsb' 0 62)

/-- An instruction that sets MSR[PR] sets EE, IR and DR with it; MSR[ME] is altered only by `rfid`, `hrfid` and the Machine
Check interrupt; every step keeps PR=1 with EE, IR and DR (R38, R452; the last clause is the inference that R38 marks as
derived, and that of ME is R38 with the Machine Check column of R452). -/
def Obligations.WritersKeepMsrInvariants : Prop :=
  (∀ (i : Instr) (s t : State), exec i s = .next t → pr s.msr = false → pr t.msr = true →
      ee t.msr = true ∧ ir t.msr = true ∧ dr t.msr = true)
    ∧ (∀ (i : Instr) (s t : State), exec i s = .next t → me t.msr ≠ me s.msr →
        i = .rfid ∨ i = .hrfid ∨ t.enteredFrom s .machineCheck)
    ∧ ∀ s t : State, step s = .next t → problemOk s.msr = true → problemOk t.msr = true

/-- The privilege state is that of MSR[HV,PR]; an instruction raises HV only by taking an interrupt, and lowers it only if it
is `rfid` or `hrfid`, in the step as in `exec`: a step that raises HV ends at the vector of an interrupt that sets HV, and one
that lowers it has executed `rfid` or `hrfid` (R37). -/
def Obligations.HypervisorStateEnteredAndLeft : Prop :=
  (∀ s : State, (s.problem = true ↔ pr s.msr = true) ∧ (s.hypervisor = true ↔ hv s.msr = true ∧ pr s.msr = false)
      ∧ (s.supervisor = true ↔ hv s.msr = false ∧ pr s.msr = false))
    ∧ (∀ (i : Instr) (s t : State), exec i s = .next t → hv s.msr = false → hv t.msr = true →
        ∃ k, t.enteredFrom s k ∧ setsHv s.spr.lpcr k = true)
    ∧ (∀ (i : Instr) (s t : State), exec i s = .next t → hv s.msr = true → hv t.msr = false → i = .rfid ∨ i = .hrfid)
    ∧ (∀ s t : State, step s = .next t → hv s.msr = false → hv t.msr = true →
        ∃ k m, t.nia = vector k ∧ t.msr = newMsr s.cfg s.spr.lpcr k m ∧ setsHv s.spr.lpcr k = true)
    ∧ ∀ s t : State, step s = .next t → hv s.msr = true → hv t.msr = false →
        ∃ w u, s.present.fetch = .ok w u ∧ (decode w = .ok .rfid ∨ decode w = .ok .hrfid)

/-! ### Privilege -/

/-- A program in problem state is confined: every instruction has a next state, which differs only in General Purpose
Registers, XER, LR, CTR and NIA, unless the instruction takes a Program or System Call interrupt, and then only SRR0, SRR1,
MSR and NIA change; under the policy `alternative` of R342 an undefined SPR number with spr[0]=0 has no successor state (R32,
R34, R302, R342, R450; that invalid forms and undefined SPR numbers interrupt is the spec's decision D34, D36). -/
def Obligations.ProblemStateConfined : Prop :=
  ∀ (i : Instr) (s : State), s.problem = true →
    (∃ t, exec i s = .next t ∧ s.sameProtected t
      ∧ ((t.msr = s.msr ∧ t.spr = s.spr ∧ t.nia = s.cia + 4)
          ∨ ∃ k, t.enteredFrom s k ∧ t.gpr = s.gpr ∧ t.bookI = s.bookI
              ∧ (k = .program ∨ ∃ lev, k = .systemCall lev ∧ i = .sc lev)))
    ∨ (s.cfg.badSprPolicy = .alternative ∧ exec i s = .refused .undefinedSpr
        ∧ ∃ n r, (i = .mtspr n r ∨ i = .mfspr r n) ∧ n.getLsbD 4 = false)

/-- Privileged software outside hypervisor state cannot alter a hypervisor resource: the registers of R33 keep their contents,
and MSR[ME] and MSR[HV] change only by an interrupt (R33, R34; the policy of D18 and the
interrupt of D35 are the spec's decisions). -/
def Obligations.SupervisorStateConfined : Prop :=
  ∀ (i : Instr) (s t : State), s.supervisor = true → exec i s = .next t →
    s.sameHypervisorRegisters t
      ∧ ((me t.msr = me s.msr ∧ hv t.msr = false) ∨ ∃ k, t.enteredFrom s k)

/-- A privileged instruction in problem state, and a hypervisor-only instruction outside hypervisor state, is a Privileged
Instruction interrupt with no other effect (R302, R481; in state 0b00 it is the choice D35 of 92_eei_decisions.md). -/
def Obligations.PrivilegedInstructionTraps : Prop :=
  (∀ (i : Instr) (s : State), i.isPrivileged = true → i.isProvided s.cfg = true → s.problem = true →
      exec i s = .next (s.programInterrupt privilegedCause))
    ∧ ∀ (i : Instr) (s : State), i.isHypervisor = true → i.isProvided s.cfg = true → s.hypervisor = false →
      exec i s = .next (s.programInterrupt privilegedCause)

/-- An optional instruction that the implementation does not provide is an Illegal Instruction interrupt, in any privilege
state (R300; that an absent TLB makes its instructions illegal is the choice D9). -/
def Obligations.AbsentInstructionIsIllegal : Prop :=
  ∀ (i : Instr) (s : State), i.isProvided s.cfg = false → exec i s = .next (s.programInterrupt illegalCause)

/-- The privilege columns of R66 for `mtspr` and `mfspr`, number by number. A number of the column 'no' goes on in every state.
A number of the column 'yes' or 'hypv' in problem state is a Privileged Instruction interrupt; one of the column 'hypv' in state
0b00 follows the parameter HV_WRITE_POLICY (D18, D38). Every other number is not defined: it follows BAD_SPR_POLICY, in its
default case a Privileged Instruction interrupt in problem state if spr[0]=1, else an Illegal Instruction interrupt (R66, R340,
R341, R342; D36; the policies with an 'undefined' result have no successor state). -/
def Obligations.SprPrivilegeColumns : Prop :=
  ∀ (n : BitVec 10) (r : Reg) (s : State),
    let ear : List (BitVec 10) := if s.cfg.hasEar then [282] else []
    let monitor : List (BitVec 10) :=
      if s.cfg.hasPmm then [786, 787, 788, 789, 790, 791, 792, 795, 796, 797, 798] else []
    let monitorRead : List (BitVec 10) :=
      if s.cfg.hasPmm then [770, 771, 772, 773, 774, 775, 776, 779, 780, 781, 782] else []
    let writeNo : List (BitVec 10) := [1, 8, 9]
    let writeYes : List (BitVec 10) := [18, 19, 22, 26, 27, 29, 152, 272, 273, 274, 275] ++ monitor
    let writeHypv : List (BitVec 10) :=
      [25, 284, 285, 304, 305, 309, 310, 312, 313, 314, 315, 318, 319, 1013, 1015] ++ ear
    let readNo : List (BitVec 10) := [1, 8, 9, 136, 259] ++ monitorRead
    let readYes : List (BitVec 10) :=
      [18, 19, 22, 25, 26, 27, 29, 272, 273, 274, 275, 287, 309, 310, 1013, 1015, 1023] ++ ear ++ monitor
    let readHypv : List (BitVec 10) := [304, 305, 312, 313, 314, 315, 318, 319]
    let privileged : Result := .next (s.programInterrupt privilegedCause)
    let policy : Result := match s.cfg.hvPolicy with
      | .interrupt => privileged
      | .noop => .next { s with nia := s.cia + 4 }
    let undefined : Result := match s.cfg.badSprPolicy with
      | .byCase => if n.getLsbD 4 && s.problem then privileged else .next (s.programInterrupt illegalCause)
      | .illegal => .next (s.programInterrupt illegalCause)
      | .alternative => if n.getLsbD 4 && s.problem then privileged else .refused .undefinedSpr
    (n ∈ writeNo → ∃ t, exec (.mtspr n r) s = .next t ∧ t.nia = s.cia + 4 ∧ t.msr = s.msr)
      ∧ (n ∈ writeYes → s.problem = true → exec (.mtspr n r) s = privileged)
      ∧ (n ∈ writeHypv → (s.problem = true → exec (.mtspr n r) s = privileged)
          ∧ (s.supervisor = true → exec (.mtspr n r) s = policy))
      ∧ (n ∉ writeNo ++ writeYes ++ writeHypv → exec (.mtspr n r) s = undefined)
      ∧ (n ∈ readNo → ∃ t, exec (.mfspr r n) s = .next t ∧ t.nia = s.cia + 4 ∧ t.msr = s.msr)
      ∧ (n ∈ readYes → s.problem = true → exec (.mfspr r n) s = privileged)
      ∧ (n ∈ readHypv → (s.problem = true → exec (.mfspr r n) s = privileged)
          ∧ (s.supervisor = true → exec (.mfspr r n) s = policy))
      ∧ (n ∉ readNo ++ readYes ++ readHypv → exec (.mfspr r n) s = undefined)

/-! ### Interrupts -/

/-- Interrupt processing: execution goes on at the vector of Figure 36; every MSR bit is that of Figure 35; SRR0 and SRR1, or
HSRR0 and HSRR1 for a Hypervisor Decrementer interrupt, save the address and the MSR, with the interrupt's information in bits
33:36 and 42:47; nothing else changes (R450, R452, R453, R456; the truncation of
the saved address in 32-bit mode is the spec's decision D37, LE with HV already 1 its decision D45). -/
def Obligations.InterruptProcessing : Prop :=
  ∀ (s : State) (k : IntKind) (addr info : Word),
    let t := s.takeInterrupt k addr info
    let a := if sf s.msr then addr else zext (low addr)
    t.nia = (match k with
        | .systemReset => 0x100 | .machineCheck => 0x200 | .dataStorage => 0x300 | .dataSegment => 0x380
        | .instStorage => 0x400 | .instSegment => 0x480 | .external => 0x500 | .alignment => 0x600 | .program => 0x700
        | .fpUnavailable => 0x800 | .decrementer => 0x900 | .hypDecrementer => 0x980 | .systemCall _ => 0xC00
        | .trace => 0xD00 | .perfMonitor => 0xF00)
      ∧ (let hv1 := match k with
          | .systemReset | .machineCheck | .hypDecrementer => true
          | .external => !bit s.spr.lpcr 60
          | .systemCall lev => lev || !bit s.spr.lpcr 61
          | _ => !bit s.spr.lpcr 61
         ∀ i, i < 64 → bit t.msr i =
          if i = 0 then true
          else if i = 3 then hv1 || bit s.msr 3
          else if i = 51 then decide (k ≠ .machineCheck) && bit s.msr 51
          else if i = 62 then decide (k = .hypDecrementer) && bit s.msr 62
          else if i = 63 then s.cfg.hasLe && !hv1 && bit s.spr.lpcr 38
          else false)
      ∧ (k ≠ .hypDecrementer → t.spr = { s.spr with srr0 := a, srr1 := t.spr.srr1 }
          ∧ ∀ i, i < 64 → bit t.spr.srr1 i =
              if (33 ≤ i ∧ i ≤ 36) ∨ (42 ≤ i ∧ i ≤ 47) then bit info i else bit s.msr i)
      ∧ (k = .hypDecrementer → t.spr = { s.spr with hsrr0 := a, hsrr1 := t.spr.hsrr1 }
          ∧ ∀ i, i < 64 → bit t.spr.hsrr1 i =
              if (33 ≤ i ∧ i ≤ 36) ∨ (42 ≤ i ∧ i ≤ 47) then bit info i else bit s.msr i)
      ∧ t = { s with nia := t.nia, msr := t.msr, spr := t.spr, run := { s.run with trapped := true } }

/-- A System Reset other than power-on, presented by the environment: SF and HV are set, ME is kept, every other MSR bit is
0; SRR0 is the address of the next instruction; SRR1[62] is MSR[RI] if the state is recoverable, and 0 if it is not, if a
Machine Check is lost, or if the reset leaves the Checkstop state; General Purpose Registers, SLB and, but for what the
environment stores, Book I state and storage are kept (R461, R620; the Checkstop state is left, log entry 29). -/
def Obligations.SystemResetStep : Prop :=
  ∀ (s : State) (i : Input) (rest : List Input) (rec : Bool),
    s.run.inputs = i :: rest → i.sysReset = some (.other rec) →
      ∃ t, step s = .next t ∧ t.nia = 0x100 ∧ t.msr = 0x9000000000000000 ||| (s.msr &&& 0x1000)
        ∧ t.spr.srr0 = s.cia
        ∧ t.spr.srr1 &&& ~~~0x783F0002 = s.msr &&& ~~~0x783F0002
        ∧ t.spr.srr1 &&& 0x783F0000 = s.cfg.sresetInfoOther.setWidth 64 <<< 19
        ∧ bit t.spr.srr1 62 = (rec && ri s.msr && !s.checkstop && i.machineCheck.isNone && s.pend.machineCheck.isNone)
        ∧ t.checkstop = false ∧ t.gpr = s.gpr ∧ t.slb = s.slb
        ∧ (i.stores = [] → t.bookI = s.bookI ∧ t.mem = s.mem)

/-- A power-on System Reset: MSR is SF and HV with any ME, NIA is 0x100, HRMOR is its parameter, SRR1[62] is 0; the Checkstop
state is left; whatever the registers become, their reserved bits are 0; storage is kept, unless the platform says otherwise,
but for what the environment stores (R120, R461, R620, R621; log entry 29). -/
def Obligations.PowerOnStep : Prop :=
  ∀ (s : State) (i : Input) (rest : List Input),
    s.run.inputs = i :: rest → i.sysReset = some .powerOn →
      ∃ t, step s = .next t ∧ t.nia = 0x100 ∧ t.msr ||| 0x1000 = 0x9000000000001000
        ∧ t.spr.hrmor = s.cfg.hrmorReset &&& rmorMask ∧ bit t.spr.srr1 62 = false
        ∧ field t.spr.srr1 42 3 = s.cfg.sresetInfoPowerOn ∧ t.checkstop = false ∧ t.ReservedZero
        ∧ t.slb.length = s.cfg.slbEntries
        ∧ (i.stores = [] → s.cfg.powerOnStorage = false → t.mem = s.mem)

/-- A pending Machine Check exception: with ME=1 the interrupt, after which ME is 0 and HV is 1; with ME=0 the Checkstop state; so
for a fetch from storage that does not exist, and for `lq` and `stq` whose operand lies in such storage, at once: the operand is
neither loaded nor stored (R196, R462; SRR0 is CIA, the 'best effort' of R462; that the exception is immediate is the spec's
decision D30; an Effective Address Overflow of the operand is outside the statement, log entry 63). -/
def Obligations.MachineCheckStep : Prop :=
  let checked (s t : State) : Prop := t.gpr = s.gpr ∧ t.mem = s.mem
    ∧ (me s.msr = true → t.enteredFrom s .machineCheck ∧ t.spr.srr0 = s.cia ∧ t.checkstop = s.checkstop)
    ∧ (me s.msr = false → t.checkstop = true ∧ t.msr = s.msr)
  (∀ (s : State) (recoverable : Bool),
    s.run.inputs = [] → s.pend.sysReset = none → s.checkstop = false → s.pend.machineCheck = some recoverable →
      ∃ t, step s = .next t ∧ t.gpr = s.gpr ∧ t.mem = s.mem ∧ t.pend.machineCheck = none
        ∧ (me s.msr = true → t.nia = 0x200 ∧ t.msr = 0x9000000000000000 ∧ t.spr.srr0 = s.cia
            ∧ bit t.spr.srr1 62 = (recoverable && ri s.msr) ∧ t.checkstop = false)
        ∧ (me s.msr = false → t.checkstop = true ∧ t.msr = s.msr))
    ∧ (∀ (s : State) (a : RealAddr), s.path (ir s.msr) s.cia = .real a → absentHit s.cfg a 4 = true →
        ∃ t, s.fetch = .trap t ∧ checked s t)
    ∧ ∀ (r ra : Reg) (dq : BitVec 12) (ds : BitVec 14) (s : State) (a : RealAddr),
        s.cfg.hasLqstq = true → s.problem = false → s.breakpointsOff → (dr s.msr && s.run.overflow) = false →
        r.getLsbD 0 = false → absentHit s.cfg a 16 = true →
        let lies (store : Bool) (ea : Word) : Prop :=
          (s.path (dr s.msr) ea = .real a ∧ (s.cfg.hasRmsc && hv s.msr && rmi s.spr.lpcr) = false)
            ∨ ∃ b e cached, s.path (dr s.msr) ea = .mapped b e cached ∧ a = e.realAddress s.cfg ea
                ∧ bit e.dw1 54 = false ∧ bit e.dw1 57 = false ∧ bit e.dw1 58 = false
                ∧ (if store then mayWrite b.ks (e.dw1.extractLsb' 0 2) else mayRead b.ks (e.dw1.extractLsb' 0 2)) = true
        (r ≠ ra → lqEa s dq ra &&& 15 = 0 → lies false (lqEa s dq ra) → ∃ t, exec (.lq r dq ra) s = .next t ∧ checked s t)
          ∧ (stqEa s ds ra &&& 15 = 0 → lies true (stqEa s ds ra) → ∃ t, exec (.stq r ds ra) s = .next t ∧ checked s t)

/-- In Checkstop state no instruction is executed and no interrupt but a System Reset is taken; only a reset leaves it
(R463). -/
def Obligations.CheckstopSuspends : Prop :=
  (∀ s : State, s.checkstop = true → s.present.pend.sysReset = none → step s = .fault .checkstop)
    ∧ ∀ s t : State, s.checkstop = true → step s = .next t →
        s.present.pend.sysReset ≠ none ∧ t.nia = 0x100 ∧ t.checkstop = false

/-- Which maskable interrupts are pending, and that one of those pending is taken before the next instruction, with the address
of that instruction saved. The exception does not cease to exist by being taken: the External level, DEC and HDEC but for the
ticks of the step, and MMCR0[PMAO] stay (R472, R486, R487, R492, R501; without delay, the spec's decision D51, and before the
next instruction, its decision D49, log entry 34). -/
def Obligations.MaskableInterruptTaken : Prop :=
  (∀ (s : State) (k : IntKind), k ∈ s.pendingInterrupts ↔
      (k = .hypDecrementer ∧ hbit s.time.hdec 0 = true ∧ (ee s.msr = true ∨ hv s.msr = false ∨ pr s.msr = true)
          ∧ bit s.spr.lpcr 63 = true)
        ∨ (k = .external ∧ s.pend.external = true ∧ ee s.msr = true)
        ∨ (k = .decrementer ∧ hbit s.time.dec 0 = true ∧ ee s.msr = true)
        ∨ (k = .perfMonitor ∧ s.cfg.hasPmm = true ∧ bit s.pm.mmcr0 56 = true ∧ ee s.msr = true))
    ∧ ∀ s : State, s.undisturbed → s.pendingInterrupts ≠ [] →
        ∃ k t, k ∈ s.pendingInterrupts ∧ step s = .next t ∧ t.enteredFrom s k
          ∧ t.gpr = s.gpr ∧ t.bookI = s.bookI ∧ t.mem = s.mem ∧ t.slb = s.slb ∧ t.pend.external = s.pend.external
          ∧ t.time.dec = s.time.dec - BitVec.ofNat 32 s.cfg.ticksPerStep
          ∧ t.time.hdec = s.time.hdec - BitVec.ofNat 32 s.cfg.ticksPerStep
          ∧ (bit s.pm.mmcr0 56 = true → bit t.pm.mmcr0 56 = true)
          ∧ (let saved := (s.msr &&& ~~~0x783F0000) |||
                (if k = .perfMonitor then s.cfg.pmSrr1Info &&& 0x783F0000 else 0)
             t.spr = if k = .hypDecrementer then { s.spr with hsrr0 := s.cia, hsrr1 := saved }
                     else { s.spr with srr0 := s.cia, srr1 := saved })

/-- An instruction other than `rfid` and `hrfid` that completes with MSR[SE]=1, without an interrupt, is followed by a Trace
interrupt that saves the address of the next instruction and the MSR after the traced one; one that may change MSR[FE0 FE1] and
completes with a Floating-Point Enabled Exception enabled is followed by a Program interrupt with SRR1[43] and SRR1[47] instead.
With MSR[SE] or MSR[BE] set a Branch is traced, SRR0 being where it goes; with the Trace extensions SRR1[44] says whether it is
taken (R482, R490, R611, R612; that the MSR before the instruction decides on tracing is the spec's decision D48; where a Branch
goes, and which word is one, is of Books I and II, log entries 47 and 48; an access that conflicts with another, R171, and an
instruction that leaves LPCR[RMI] at 1 against R158, are outside the statement). -/
def Obligations.ExceptionsAfterCompletion : Prop :=
  (∀ (s u v : State) (w : Half) (x : Instr),
    s.ready → s.present.fetch = .ok w u → decode w = .ok x → exec x u = .next v → v.run.trapped = false →
    attributesDiffer s.present v = false → v.rmiProper = true →
      let enabled := (executedInstr x).changesFe && ((bit v.msr 52 || bit v.msr 55) && hbit v.bookI.fpscr 1)
      (enabled = false → se s.msr = true → s.cfg.hasTraceExt = false → x ≠ .rfid → x ≠ .hrfid →
        ∃ t, step s = .next t ∧ t.nia = 0xD00 ∧ t.msr = newMsr v.cfg v.spr.lpcr .trace v.msr
          ∧ t.spr.srr0 = v.cia ∧ t.spr.srr1 = (v.msr &&& ~~~0x783F0000) ||| (s.cfg.traceSrr1Info &&& 0x783F0000)
          ∧ t.gpr = v.gpr ∧ t.mem = v.mem)
      ∧ (enabled = true →
        ∃ t, step s = .next t ∧ t.nia = 0x700 ∧ t.msr = newMsr v.cfg v.spr.lpcr .program v.msr
          ∧ t.spr.srr0 = v.cia ∧ t.spr.srr1 = (v.msr &&& ~~~0x783F0000) ||| 0x110000
          ∧ t.gpr = v.gpr ∧ t.mem = v.mem))
    ∧ ∀ (s u : State) (w : Half) (d : DecodeError) (e : BaseEffect),
      s.ready → s.present.fetch = .ok w u → decode w = .error d → decodeForeign w = none → decodeOutside w = .branch →
      s.input.base = some (.runs e) → attributesDiffer s.present u = false → (se s.msr || be s.msr) = true →
        ∃ t, step s = .next t ∧ t.nia = 0xD00 ∧ t.msr = newMsr s.cfg s.spr.lpcr .trace s.msr
          ∧ t.spr.srr0 = (if sf s.msr then e.nia else zext (low e.nia)) &&& ~~~3
          ∧ t.spr.srr1 = (s.msr &&& ~~~0x783F0000) |||
              (if s.cfg.hasTraceExt then (if e.taken then 0x80000 else 0) else s.cfg.traceSrr1Info &&& 0x783F0000)
          ∧ t.gpr = e.gpr ∧ t.mem = u.mem

/-! ### Storage interrupts -/

/-- The SLB search: an entry matches if it is valid and its ESID is EA[0:35]; no match is a segment fault, an Instruction
Segment interrupt for a fetch and a Data Segment interrupt for a data access; more than one match has no successor state, the
treatment that R203 names (R203, R469, R470, R471; that the DAR is the operand's address is the spec's decision D46, log entry
32). -/
def Obligations.SlbSearch : Prop :=
  (∀ (s : State) (ea : Word) (e : SlbEntry),
      e ∈ s.slbMatches ea ↔ e ∈ s.slb ∧ e.v = true ∧ e.esid = ea.extractLsb' 28 36)
    ∧ (∀ s : State, ir s.msr = true → le s.msr = false → s.slbMatches s.cia = [] →
        ∃ t, s.fetch = .trap t ∧ t.enteredFrom s .instSegment ∧ t.spr.srr0 = s.cia
          ∧ t.spr.srr1 = s.msr &&& ~~~0x783F0000 ∧ t.gpr = s.gpr ∧ t.mem = s.mem)
    ∧ (∀ (s : State) (k : AccessKind) (ea : Word) (n : Nat), dr s.msr = true → le s.msr = false → s.slbMatches ea = [] →
        ∃ t, s.dataAccess k ea n = .trap t ∧ t.enteredFrom s .dataSegment ∧ t.spr.srr0 = s.cia
          ∧ t.spr.srr1 = s.msr &&& ~~~0x783F0000 ∧ t.spr.dar = ea ∧ t.gpr = s.gpr ∧ t.mem = s.mem)
    ∧ (∀ (s : State) (k : AccessKind) (ea : Word) (n : Nat), dr s.msr = true → le s.msr = false →
        2 ≤ (s.slbMatches ea).length → s.dataAccess k ea n = .refuse .duplicateSlb)
    ∧ ∀ s : State, ir s.msr = true → le s.msr = false → 2 ≤ (s.slbMatches s.cia).length → s.fetch = .refuse .duplicateSlb

/-- A page fault: an Instruction Storage interrupt with SRR1[33]=1 for a fetch, a Data Storage interrupt with DSISR[1]=1 and
the operand's address in the DAR for a data access (R224, R465, R468; the DAR is the spec's decision D46, log entry 32). -/
def Obligations.PageFault : Prop :=
  (∀ (s : State) (b : SlbEntry), ir s.msr = true → le s.msr = false → s.slbMatches s.cia = [b] →
      (b.l = true → s.cfg.largePages = true) → s.lookup b.l (virtualAddress b s.cia) = .miss →
        ∃ t, s.fetch = .trap t ∧ t.enteredFrom s .instStorage ∧ t.spr.srr0 = s.cia
          ∧ t.spr.srr1 &&& ~~~0x10000 = (s.msr &&& ~~~0x783F0000) ||| 0x40000000
          ∧ t.gpr = s.gpr ∧ t.mem = s.mem)
    ∧ ∀ (s : State) (k : AccessKind) (ea : Word) (n : Nat) (b : SlbEntry), dr s.msr = true → le s.msr = false →
        s.slbMatches ea = [b] → (b.l = true → s.cfg.largePages = true) → s.lookup b.l (virtualAddress b ea) = .miss →
        ∃ t, s.dataAccess k ea n = .trap t ∧ t.enteredFrom s .dataStorage ∧ t.spr.srr0 = s.cia ∧ t.spr.dar = ea
          ∧ t.spr.dsisr &&& ~~~0x10000 = (if k.store then 0x42000000 else 0x40000000)
          ∧ t.gpr = s.gpr ∧ t.mem = s.mem

/-- Protection of a translated access: the Key of R232 and the table of Figure 30; a fetch is stopped if the N value (the OR of
the two N bits) or PTE[G] is 1, with SRR1[35]=1, or if the table gives no access, with SRR1[36]=1 (R223, R231, R232, R233, R468;
that both bits are set where both causes hold is the model's choice, log entry 32: R468 lets any one or more be set). -/
def Obligations.ProtectionRules : Prop :=
  (∀ (m : Word) (b : SlbEntry), key m b = ((b.kp && pr m) || (b.ks && !pr m)))
    ∧ (∀ pp : BitVec 2, mayRead false pp = true ∧ (mayWrite false pp = true ↔ pp ≠ 3))
    ∧ (∀ pp : BitVec 2, (mayRead true pp = true ↔ pp ≠ 0) ∧ (mayWrite true pp = true ↔ pp = 2))
    ∧ ∀ (s : State) (b : SlbEntry) (e : TlbEntry) (cached : Bool),
        s.path (ir s.msr) s.cia = .mapped b e cached → (bit e.dw1 57 && bit e.dw1 58) = false →
        let stopped := (b.n || bit e.dw1 61) || bit e.dw1 60
        let allowed := mayRead (key s.msr b) (e.dw1.extractLsb' 0 2)
        (stopped || !allowed) = true →
          ∃ t, s.fetch = .trap t ∧ t.enteredFrom s .instStorage ∧ t.spr.srr0 = s.cia
            ∧ bit t.spr.srr1 35 = stopped ∧ bit t.spr.srr1 36 = !allowed ∧ t.gpr = s.gpr ∧ t.mem = s.mem

/-- A translated data access that protection, W or I storage, Data Address Compare or the Data Address Breakpoint stops is a
Data Storage interrupt whose DSISR names the causes, whose DAR is the operand's address but for a Breakpoint match alone, and
which accesses no storage; so is an access in real addressing mode that Figure 31 denies, that reaches Caching Inhibited
storage, or that matches the Breakpoint. In real addressing mode the operand is Caching Inhibited in hypervisor state with
LPCR[RMI]=1, but where Real Mode Storage Control makes all of it non-Guarded it may be or not; without that facility `lq` and
`stq` have no W or I cause there (R412). With a supported PRIVM a Breakpoint match is that of R244; with another one it may
occur or not, and the other clauses hold either way (R158, R159, R160, R240, R244, R465, R466; that the DSISR names every
cause at once is the model's choice, log entry 32, where R465 lets any one or more be set; the DAR, the W and I cause, and
that an access denied leaves R and C as they are, are the spec's decisions D46, D42 and D25; that PTE[W]=1 is supported, and
so a cause, is the model's choice, log entry 62, which R170 leaves open; that R412 and not R158 decides for `lq` and `stq`
without Real Mode Storage Control, and that an operand which is non-Guarded only in part is Caching Inhibited, is its choice
too, log entry 57; that the search's result may be kept in the TLB is R225, log entry 6). -/
def Obligations.DataStorageCauses : Prop :=
  let stopped (s t : State) (k : AccessKind) (protect wi matched : Bool) (ea : Word) (named : Bool) : Prop :=
    t.enteredFrom s .dataStorage ∧ t.spr.srr0 = s.cia
      ∧ hbit t.spr.dsisr 4 = protect ∧ hbit t.spr.dsisr 5 = wi ∧ hbit t.spr.dsisr 6 = k.store
      ∧ hbit t.spr.dsisr 9 = matched ∧ t.spr.dsisr &&& ~~~0x0E410000 = 0
      ∧ (named = true → t.spr.dar = ea) ∧ t.gpr = s.gpr ∧ t.mem = s.mem
  (∀ (s : State) (k : AccessKind) (ea : Word) (n : Nat) (b : SlbEntry) (e : TlbEntry) (cached : Bool),
    s.path (dr s.msr) ea = .mapped b e cached → (bit e.dw1 57 && bit e.dw1 58) = false → k.dac = .applies →
    let protect := !(if k.store then mayWrite (key s.msr b) (e.dw1.extractLsb' 0 2)
      else mayRead (key s.msr b) (e.dw1.extractLsb' 0 2))
    let wi := k.noWI && (bit e.dw1 57 || bit e.dw1 58)
    let dac := bit e.dw1 54 && (if k.store then bit s.spr.accr 62 else bit s.spr.accr 63)
    (protect || wi || dac || s.dabrMatch k ea n) = true →
      ∃ t, s.dataAccess k ea n = .trap t ∧ stopped s t k protect wi (dac || s.dabrMatch k ea n) ea (protect || wi || dac)
        ∧ (t.tlb = s.tlb ∨ (cached = false ∧ t.tlb = e :: s.tlb)))
    ∧ (∀ (s : State) (k : AccessKind) (ea : Word) (n : Nat), dr s.msr = false → s.path false ea = .denied →
        ∃ t, s.dataAccess k ea n = .trap t ∧ stopped s t k true false (s.dabrMatch k ea n) ea true ∧ t.tlb = s.tlb)
    ∧ (∀ (s : State) (k : AccessKind) (ea : Word) (n : Nat) (a : RealAddr), dr s.msr = false → s.path false ea = .real a →
        ∃ wi : Bool, (wi = true → k.noWI = true ∧ (k.rmscOnly = true → s.cfg.hasRmsc = true) ∧ hv s.msr = true
            ∧ rmi s.spr.lpcr = true)
          ∧ (k.noWI = true → (k.rmscOnly = true → s.cfg.hasRmsc = true) → hv s.msr = true → rmi s.spr.lpcr = true → wi = false → ∀ i, i < n →
              s.cfg.hasRmsc = true ∧ ∃ x ∈ s.cfg.rmNonguarded, x.base ≤ a.toNat + i ∧ a.toNat + i < x.base + x.size)
          ∧ ((wi || s.dabrMatch k ea n) = true →
              ∃ t, s.dataAccess k ea n = .trap t ∧ stopped s t k false wi (s.dabrMatch k ea n) ea wi ∧ t.tlb = s.tlb))
    ∧ ∀ (s : State) (k : AccessKind) (ea : Word) (n : Nat), k.dabr = .applies →
        field s.spr.dabrx 61 3 ≠ 5 → field s.spr.dabrx 61 3 ≠ 6 →
        (s.dabrMatch k ea n = true ↔
          (dr s.msr = bit s.spr.dabr 61 ∨ bit s.spr.dabrx 60 = true)
            ∧ ((hv s.msr = true ∧ pr s.msr = false ∧ bit s.spr.dabrx 61 = true)
                ∨ (hv s.msr = false ∧ pr s.msr = false ∧ bit s.spr.dabrx 62 = true)
                ∨ (pr s.msr = true ∧ bit s.spr.dabrx 63 = true))
            ∧ (if k.store then bit s.spr.dabr 62 else bit s.spr.dabr 63) = true
            ∧ ∃ i, i < n ∧
                let x := ea + BitVec.ofNat 64 i
                (if sf s.msr then x else zext (low x)) >>> 3 = s.spr.dabr >>> 3)

/-! ### Instructions of Books I and II -/

/-- What Book III adds to words of Books I and II. A floating-point instruction with MSR[FP]=0 is a Floating-Point Unavailable
interrupt; a Trap instruction that traps, and an `lswx` that loads RA or RB, are Program interrupts; an unaligned `lwarx`,
`ldarx`, `stwcx.` or `stdcx.` is an Alignment interrupt, its DSISR from the instruction word; an aligned one whose operand is
in Write Through Required or Caching Inhibited storage is a Data Storage interrupt with DSISR[5]=1, a Store Conditional
without a reservation only with STCX_FAIL_DSI; an aligned one whose effective address overflows is, with translation on, a
Data Storage interrupt whose DSISR names no cause; and a word that is no storage, floating-point, Trap or Branch instruction
and not `isync` has the effect that Books I and II give it (R183, R464, R465, R474, R475, R476, R480, R483; the interrupt of
the `lswx` is the spec's decision D34, of the W or I cause D42; that PTE[W]=1 is supported, and so a cause, is the model's
choice, log entry 62, which R170 leaves open; that an unaligned one is Alignment before anything of the access is reported is
the order of log entry 46, DEDUCED from R501; the overflow's DSISR and DAR are the model's choice, log entry 63, R36; which
word is which instruction is of Books I and II, log entry 47, its effect there log entry 48, and whether a Store Conditional
is performed log entry 50). -/
def Obligations.OutsideInstructionInterrupts : Prop :=
  ∀ (w : Half) (b : Option BaseEffect) (s : State),
    let stopped (k : IntKind) (t : State) : Prop :=
      t.enteredFrom s k ∧ t.spr.srr0 = s.cia ∧ t.spr.srr1 = s.msr &&& ~~~0x783F0000 ∧ t.gpr = s.gpr ∧ t.bookI = s.bookI
        ∧ t.mem = s.mem
    (fp s.msr = false → (∃ t, execFloat w b s = .next t ∧ stopped .fpUnavailable t)
        ∧ ∀ x : StorageWord, x.kind.traits.float = true → ∃ t, execStorage x w b s = .next t ∧ stopped .fpUnavailable t)
      ∧ (∀ e, e.traps = true → execOutside .trap w (some e) s = .next (s.programInterrupt 0x20000))
      ∧ (∀ x : StorageWord, x.kind = .loadString true →
          (let count := (s.bookI.xer.toNat % 128 + 3) / 4
           ((w.extractLsb' 16 5 - w.extractLsb' 21 5).toNat < count ∨ (w.extractLsb' 11 5 - w.extractLsb' 21 5).toNat < count)) →
          execStorage x w b s = .next (s.programInterrupt illegalCause))
      ∧ (∀ (x : StorageWord) (n : Nat), x.form = .x → x.update = false →
          (x.kind = .loadReserve n ∨ x.kind = .storeConditional n) → n = 4 ∨ n = 8 →
          let ea := x.ea w s
          (ea.toNat % n ≠ 0 → ∃ t, execStorage x w b s = .next t ∧ stopped .alignment t ∧ t.spr.dar = ea
              ∧ t.spr.dsisr &&& 0xFFFFFFE0 = ((w.extractLsb' 1 2).setWidth 32 <<< 15) ||| ((w.extractLsb' 6 1).setWidth 32 <<< 14)
                  ||| ((w.extractLsb' 7 4).setWidth 32 <<< 10) ||| ((w.extractLsb' 21 5).setWidth 32 <<< 5))
            ∧ (ea.toNat % n = 0 → (x.kind = .loadReserve n ∨ s.bookI.reservation ≠ none ∨ s.cfg.stcxFailDsi = true) →
                ((dr s.msr && s.run.overflow) = true →
                  ∃ t, execStorage x w b s = .next t ∧ stopped .dataStorage t ∧ t.spr.dar = ea
                    ∧ t.spr.dsisr &&& ~~~0x10000 = if x.kind = .storeConditional n then 0x02000000 else 0)
                ∧ ∀ (c : SlbEntry) (e : TlbEntry) (cached : Bool), (dr s.msr && s.run.overflow) = false →
                  s.path (dr s.msr) ea = .mapped c e cached → bit e.dw1 57 ≠ bit e.dw1 58 →
                  ∃ t, execStorage x w b s = .next t ∧ stopped .dataStorage t ∧ t.spr.dar = ea
                    ∧ hbit t.spr.dsisr 5 = true ∧ hbit t.spr.dsisr 6 = decide (x.kind = .storeConditional n)))
      ∧ ∀ (listed : Bool) (e : BaseEffect), execOutside (.plain listed) w (some e) s =
          .next { s with nia := s.cia + 4, gpr := e.gpr, bookI := { e.bookI with xer := e.bookI.xer &&& 0xE000007F } }

/-! ### The operands of `lq` and `stq` -/

/-- `lq` and `stq` in invalid form are an Illegal Instruction interrupt; in valid form with an operand that is no multiple of
16 they are an Alignment interrupt with the operand's address in the DAR, and with an aligned one whose address overflows they are
with translation on a Data Storage interrupt (R36, R295, R410, R411, R475, R476; the interrupt of an invalid form is the spec's
decision D34, the DSISR of the Alignment interrupt is the choice D44, log entry 17, and its bits 27:31 are undefined; the DSISR and
the DAR of an Effective Address Overflow are the model's choice, log entry 63). -/
def Obligations.QuadFormAndAlignment : Prop :=
  ∀ (r ra : Reg) (dq : BitVec 12) (ds : BitVec 14) (s : State), s.cfg.hasLqstq = true → s.problem = false →
    ((r.getLsbD 0 = true ∨ r = ra) → exec (.lq r dq ra) s = .next (s.programInterrupt illegalCause))
      ∧ (r.getLsbD 0 = true → exec (.stq r ds ra) s = .next (s.programInterrupt illegalCause))
      ∧ (r.getLsbD 0 = false → r ≠ ra → lqEa s dq ra &&& 15 ≠ 0 →
          ∃ t, exec (.lq r dq ra) s = .next t ∧ t.enteredFrom s .alignment ∧ t.spr.srr0 = s.cia
            ∧ t.spr.dar = lqEa s dq ra ∧ t.spr.dsisr &&& 0xFFFFFFE0 = 0x3000 ||| (r.setWidth 32 <<< 5)
            ∧ t.gpr = s.gpr ∧ t.mem = s.mem)
      ∧ (r.getLsbD 0 = false → stqEa s ds ra &&& 15 ≠ 0 →
          ∃ t, exec (.stq r ds ra) s = .next t ∧ t.enteredFrom s .alignment ∧ t.spr.srr0 = s.cia
            ∧ t.spr.dar = stqEa s ds ra ∧ t.spr.dsisr &&& 0xFFFFFFE0 = 0x83C00 ||| (r.setWidth 32 <<< 5)
            ∧ t.gpr = s.gpr ∧ t.mem = s.mem)
      ∧ (r.getLsbD 0 = false → dr s.msr = true → s.run.overflow = true →
          let overflows (ea : Word) (dsisr : Half) (t : State) : Prop := t.enteredFrom s .dataStorage ∧ t.spr.srr0 = s.cia
            ∧ t.spr.dar = ea ∧ t.spr.dsisr &&& ~~~0x10000 = dsisr ∧ t.gpr = s.gpr ∧ t.mem = s.mem
          (r ≠ ra → lqEa s dq ra &&& 15 = 0 →
              ∃ t, exec (.lq r dq ra) s = .next t ∧ overflows (lqEa s dq ra) 0 t)
            ∧ (stqEa s ds ra &&& 15 = 0 →
              ∃ t, exec (.stq r ds ra) s = .next t ∧ overflows (stqEa s ds ra) 0x02000000 t))

/-! ### System linkage and moves to the MSR -/

/-- `sc LEV`: the System Call interrupt, in every state (R320, R488; SRR0 in 32-bit mode by the spec's decision D37). -/
def Obligations.ScTakesSystemCall : Prop :=
  ∀ (lev : Bool) (s : State),
    exec (.sc lev) s = .next { s with
      nia := 0xC00
      msr := 0x8000000000000000
        ||| (if lev || !bit s.spr.lpcr 61 then 0x1000000000000000 else s.msr &&& 0x1000000000000000)
        ||| (s.msr &&& 0x1000)
        ||| (if s.cfg.hasLe && !(lev || !bit s.spr.lpcr 61) && bit s.spr.lpcr 38 then 1 else 0)
      spr := { s.spr with
        srr0 := if sf s.msr then s.cia + 4 else zext (low (s.cia + 4))
        srr1 := s.msr &&& ~~~0x783F0000 }
      run := { s.run with trapped := true } }

/-- `rfid` outside problem state: MSR bit by bit (a bit that is not state stays 0), NIA from SRR0[0:61] as the new SF reads it,
nothing else (R321; the bits that are not state by the spec's decision D16). -/
def Obligations.RfidRestores : Prop :=
  ∀ s : State, s.problem = false →
    ∃ m, exec .rfid s = .next { s with msr := m, nia := (if sf m then s.spr.srr0 else zext (low s.spr.srr0)) &&& ~~~3 }
      ∧ ∀ i, i < 64 → bit m i = (bit (msrMask s.cfg) i &&
          (if i = 0 then bit s.spr.srr1 0 || bit s.spr.srr1 1
           else if i = 3 then bit s.msr 3 && bit s.spr.srr1 3
           else if i = 48 ∨ i = 58 ∨ i = 59 then bit s.spr.srr1 i || bit s.spr.srr1 49
           else if i = 51 then (if bit s.msr 3 then bit s.spr.srr1 51 else bit s.msr 51)
           else bit s.spr.srr1 i))

/-- `hrfid` in hypervisor state: as `rfid`, from HSRR0 and HSRR1, with HV and ME restored too (R322; D16). -/
def Obligations.HrfidRestores : Prop :=
  ∀ s : State, s.hypervisor = true →
    ∃ m, exec .hrfid s = .next { s with msr := m, nia := (if sf m then s.spr.hsrr0 else zext (low s.spr.hsrr0)) &&& ~~~3 }
      ∧ ∀ i, i < 64 → bit m i = (bit (msrMask s.cfg) i &&
          (if i = 0 then bit s.spr.hsrr1 0 || bit s.spr.hsrr1 1
           else if i = 48 ∨ i = 58 ∨ i = 59 then bit s.spr.hsrr1 i || bit s.spr.hsrr1 49
           else bit s.spr.hsrr1 i))

/-- `mtmsrd` outside problem state. L=0: MSR bit by bit, HV and ME unaltered; the next instruction follows. A change of SF at
2^32 - 4 has no successor state (item 35 of 93_implementation_defined.md), or, by the parameter `sfWrapFree`, goes on at an
undefined address (R143; log entry 22). L=1: only EE and RI (R143, R343; D16; a move that would be an implicit branch is outside
the statement, R142). -/
def Obligations.MtmsrdMovesMsr : Prop :=
  ∀ (rs : Reg) (s : State), s.problem = false →
    (∃ m, (∀ i, i < 64 → bit m i = (bit (msrMask s.cfg) i &&
            (if i = 0 then bit (s.readGpr rs) 0 || bit (s.readGpr rs) 1
             else if i = 3 ∨ i = 51 then bit s.msr i
             else if i = 48 ∨ i = 58 ∨ i = 59 then bit (s.readGpr rs) i || bit (s.readGpr rs) 49
             else bit (s.readGpr rs) i)))
        ∧ (sf m ≠ sf s.msr → s.cia = 0xFFFFFFFC →
            (s.cfg.sfWrapFree = false → exec (.mtmsrd rs false) s = .refused .implicitBranch)
              ∧ (s.cfg.sfWrapFree = true → ∃ n, exec (.mtmsrd rs false) s =
                  .next { s with msr := m, nia := n, run := { s.run with draws := s.run.draws + 1 } }))
        ∧ ((sf m ≠ sf s.msr → s.cia ≠ 0xFFFFFFFC) → (sf m = false → s.cia.toNat < 2 ^ 32) →
            s.noImplicitBranch { s with msr := m, nia := s.cia + 4 } →
              exec (.mtmsrd rs false) s = .next { s with msr := m, nia := s.cia + 4 }))
      ∧ ∃ m, exec (.mtmsrd rs true) s = .next { s with msr := m, nia := s.cia + 4 }
          ∧ ∀ i, i < 64 → bit m i = if i = 48 ∨ i = 62 then bit (s.readGpr rs) i else bit s.msr i

/-- `mtmsr` outside problem state, where it is provided: as `mtmsrd`, with MSR[0:31] left alone (R346; D16, R142). -/
def Obligations.MtmsrMovesMsr : Prop :=
  ∀ (rs : Reg) (s : State), s.cfg.hasMtmsr = true → s.problem = false →
    (∃ m, (∀ i, i < 64 → bit m i = (bit (msrMask s.cfg) i &&
            (if i < 32 ∨ i = 51 then bit s.msr i
             else if i = 48 ∨ i = 58 ∨ i = 59 then bit (s.readGpr rs) i || bit (s.readGpr rs) 49
             else bit (s.readGpr rs) i)))
        ∧ (s.noImplicitBranch { s with msr := m, nia := s.cia + 4 } →
            exec (.mtmsr rs false) s = .next { s with msr := m, nia := s.cia + 4 }))
      ∧ ∃ m, exec (.mtmsr rs true) s = .next { s with msr := m, nia := s.cia + 4 }
          ∧ ∀ i, i < 64 → bit m i = if i = 48 ∨ i = 62 then bit (s.readGpr rs) i else bit s.msr i

/-- `mfmsr` outside problem state copies the MSR, and changes nothing else; in problem state it is a Privileged Instruction
interrupt (R345). -/
def Obligations.MfmsrCopiesMsr : Prop :=
  ∀ (rt : Reg) (s : State),
    (s.problem = false →
        exec (.mfmsr rt) s = .next { s with nia := s.cia + 4, gpr := s.gpr.set rt.toNat s.msr rt.isLt })
      ∧ (s.problem = true → exec (.mfmsr rt) s = .next (s.programInterrupt privilegedCause))

/-! ### Moves to and from Special Purpose Registers -/

/-- `mtspr` to the registers that any program, and those that privileged software, may write: the register takes RS (its
low-order word if it has 32 bits, its reserved bits 0), and nothing else changes (R66, R340; reserved bits by the spec's
decisions D16 and D20). -/
def Obligations.MtsprWritesOrdinaryRegisters : Prop :=
  ∀ (rs : Reg) (s : State),
    let v := s.readGpr rs
    let go : State := { s with nia := s.cia + 4 }
    exec (.mtspr 1 rs) s = .next { go with bookI := { s.bookI with xer := v &&& 0xE000007F } }
      ∧ exec (.mtspr 8 rs) s = .next { go with bookI := { s.bookI with lr := v } }
      ∧ exec (.mtspr 9 rs) s = .next { go with bookI := { s.bookI with ctr := v } }
      ∧ (s.problem = false →
          exec (.mtspr 18 rs) s = .next { go with spr := { s.spr with dsisr := v.setWidth 32 } }
            ∧ exec (.mtspr 19 rs) s = .next { go with spr := { s.spr with dar := v } }
            ∧ exec (.mtspr 22 rs) s = .next { go with time := { s.time with dec := v.setWidth 32 } }
            ∧ exec (.mtspr 26 rs) s = .next { go with spr := { s.spr with srr0 := v } }
            ∧ exec (.mtspr 27 rs) s = .next { go with spr := { s.spr with srr1 := v } }
            ∧ exec (.mtspr 29 rs) s = .next { go with spr := { s.spr with accr := v &&& 3 } }
            ∧ exec (.mtspr 152 rs) s = .next { go with spr := { s.spr with ctrl := v.setWidth 32 &&& 1 } }
            ∧ exec (.mtspr 272 rs) s = .next { go with spr := { s.spr with sprg0 := v } }
            ∧ exec (.mtspr 273 rs) s = .next { go with spr := { s.spr with sprg1 := v } }
            ∧ exec (.mtspr 274 rs) s = .next { go with spr := { s.spr with sprg2 := v } }
            ∧ exec (.mtspr 275 rs) s = .next { go with spr := { s.spr with sprg3 := v } })

/-- `mtspr` in hypervisor state to the hypervisor's registers. A write that can move the instruction itself or the next one does
so only where it does not (R632); SDR1 only with translation off or unchanged, RMOR and HRMOR only with a supported offset, LPCR not
with LPES = 0b10; a move to a half of the Time Base leaves the other half (R8, R42 to R46, R54, R66, R340, R550, R631; D16; that EAR
stores all six bits of the Resource ID is the model's choice, log entry 58: R58 and R416 leave the supported width open). -/
def Obligations.MtsprWritesHypervisorRegisters : Prop :=
  ∀ (rs : Reg) (s : State), s.hypervisor = true →
    let v := s.readGpr rs
    let go : State := { s with nia := s.cia + 4 }
    exec (.mtspr 304 rs) s = .next { go with spr := { s.spr with hsprg0 := v } }
      ∧ exec (.mtspr 305 rs) s = .next { go with spr := { s.spr with hsprg1 := v } }
      ∧ exec (.mtspr 309 rs) s = .next { go with time := { s.time with purr := v } }
      ∧ exec (.mtspr 310 rs) s = .next { go with time := { s.time with hdec := v.setWidth 32 } }
      ∧ exec (.mtspr 314 rs) s = .next { go with spr := { s.spr with hsrr0 := v } }
      ∧ exec (.mtspr 315 rs) s = .next { go with spr := { s.spr with hsrr1 := v } }
      ∧ exec (.mtspr 319 rs) s = .next { go with spr := { s.spr with lpidr := v.setWidth 32 } }
      ∧ exec (.mtspr 1013 rs) s = .next { go with spr := { s.spr with dabr := v } }
      ∧ exec (.mtspr 1015 rs) s = .next { go with spr := { s.spr with dabrx := v &&& 0xF } }
      ∧ (s.cfg.hasEar = true →
          exec (.mtspr 282 rs) s = .next { go with spr := { s.spr with ear := v.setWidth 32 &&& 0x8000003F } })
      ∧ (monitorQuiet s.pm.mmcr0 →
          exec (.mtspr 284 rs) s = .next
              { go with time := { s.time with tb := s.time.tb.extractLsb' 32 32 ++ v.setWidth 32 } }
            ∧ exec (.mtspr 285 rs) s = .next
              { go with time := { s.time with tb := v.setWidth 32 ++ s.time.tb.setWidth 32 } })
      ∧ (let stored : Word := (0x3FFFFFFFFFFC0000 &&& ((1 <<< s.cfg.realBits) - 1)) ||| 0x1F
         let t : State := { go with spr := { s.spr with sdr1 := v &&& stored } }
         ((ir s.msr || dr s.msr) = false ∨ t.spr.sdr1 = s.spr.sdr1) → s.noImplicitBranch t →
           exec (.mtspr 25 rs) s = .next t)
      ∧ (let t : State := { go with spr := { s.spr with rmor := v &&& 0x3FFFFFFFFFFFFFFF } }
         v.toNat % 2 ^ rmorBits s.cfg = 0 → s.noImplicitBranch t → exec (.mtspr 312 rs) s = .next t)
      ∧ (let t : State := { go with spr := { s.spr with hrmor := v &&& 0x3FFFFFFFFFFFFFFF } }
         v.toNat % 2 ^ s.cfg.hrmorBits = 0 → v.toNat % 2 ^ 62 < 2 ^ s.cfg.realBits → s.noImplicitBranch t →
           exec (.mtspr 313 rs) s = .next t)
      ∧ (let t : State := { go with spr := { s.spr with lpcr := v &&& lpcrMask s.cfg } }
         field v 60 2 ≠ 2 → s.noImplicitBranch t → exec (.mtspr 318 rs) s = .next t)

/-- `mtspr` to the Performance Monitor's registers outside problem state, with nothing enabled that the write could set off:
the register takes RS, MMCR0 and MMCRA without their reserved bits; nothing else changes but whether SIAR and SDAR hold a defined
value (R64, R585, R586, R589, R590, R593, R594, R597; D16, D52; that disarming alerts leaves SIAR and SDAR undefined, and that a
write to one of them while nothing alters it makes it defined, is the model's choice, log entry 61). -/
def Obligations.MtsprWritesPerformanceMonitor : Prop :=
  ∀ (rs : Reg) (s : State), s.problem = false → s.cfg.hasPmm = true →
    let v := s.readGpr rs
    let go : State := { s with nia := s.cia + 4 }
    let altering := bit s.pm.mmcr0 37 || (s.cfg.hasTraceExt && (bit s.msr 53 || bit s.msr 54))
    (monitorQuiet v →
        let armed := bit s.pm.mmcr0 37 || bit v 37
        exec (.mtspr 795 rs) s = .next { go with
          pm := { s.pm with mmcr0 := v &&& 0xFFC0F8F3 }
          run := { s.run with siarStale := s.run.siarStale || armed, sdarStale := s.run.sdarStale || armed } })
      ∧ (monitorQuiet s.pm.mmcr0 →
          exec (.mtspr 786 rs) s = .next { go with pm := { s.pm with mmcra := v &&& 0xFFFFFFF1 } }
            ∧ exec (.mtspr 796 rs) s = .next { go with
                pm := { s.pm with siar := v }, run := { s.run with siarStale := s.run.siarStale && altering } }
            ∧ exec (.mtspr 797 rs) s = .next { go with
                pm := { s.pm with sdar := v }, run := { s.run with sdarStale := s.run.sdarStale && altering } }
            ∧ exec (.mtspr 798 rs) s = .next { go with pm := { s.pm with mmcr1 := v } }
            ∧ ∀ i : Fin 6, exec (.mtspr (787 + BitVec.ofNat 10 i.val) rs) s =
                .next { go with pm := { s.pm with pmc := s.pm.pmc.set i.val (v.setWidth 32) i.isLt } })

/-- What a step adds to the counters, and when they are frozen. PMC5 counts completed instructions and PMC6 steps; PMC1 to PMC4
count the event that the first row of the event table with their MMCR1 selector's code names, and nothing if there is none.
Counters are frozen by the MSR of the instruction counted, all of them by FC, FCS, FCP, FCM1, FCM0 and FCH, some by FC1-4, FC5-6
and TRIGGER, and one that counts a Branch Unit event by FCWAIT with CTRL[31]=0. Counting changes nothing else, and a step counts
once, by the MSR it began with (R581, R585, R587, R588; that a cycle is a step is the spec's decision D52; the event table and the
steps that complete no instruction are the model's, log entries 36 and 59). -/
def Obligations.MonitorCounts : Prop :=
  (∀ (s : State) (m : Word) (h : Happened), s.cfg.hasPmm = true →
    let on (i : Nat) : Bool := bit s.pm.mmcr0 i
    let all : Bool := on 32 || (on 33 && !hv m && !pr m) || (on 34 && pr m) || (on 35 && bit m 61) || (on 36 && !bit m 61)
      || (on 63 && hv m && !pr m)
    ∃ pmc, s.count m h = { s with pm := { s.pm with pmc := pmc } }
      ∧ (pmc[5] = if all || on 59 || on 50 then s.pm.pmc[5] else s.pm.pmc[5] + 1)
      ∧ (pmc[4] = if all || on 59 || on 50 then s.pm.pmc[4]
          else if h.completed.isSome then s.pm.pmc[4] + 1 else s.pm.pmc[4])
      ∧ ∀ i : Fin 4,
          let row := s.cfg.pmEvents.find? fun r => r.pmc == i.val && r.code == s.pm.mmcr1.extractLsb' (24 - 8 * i.val) 8
          pmc[i.val] = match row with
            | none => s.pm.pmc[i.val]
            | some r => if all || on 58 || (decide (0 < i.val) && on 50) || (on 62 && !hbit s.spr.ctrl 31 && r.branchUnit)
                then s.pm.pmc[i.val] else s.pm.pmc[i.val] + h.times r.event)
    ∧ (∀ (s : State) (m : Word) (h : Happened), s.cfg.hasPmm = false → s.count m h = s)
    ∧ ∀ (s t u v : State) (w : Half) (x : Instr),
        s.ready → s.present.fetch = .ok w t → decode w = .ok x → exec x t = .next v → step s = .next u →
          u.pm.pmc = (v.count s.msr ⟨if v.run.trapped && !(executedInstr x).isCall then none else some (executedInstr x),
            s.input.events⟩).pm.pmc

/-- A Performance Monitor alert. Writing a negative value to PMC1 while MMCR0 enables its condition and alerts (TRIGGER and
FCECE 0) clears PMAE, sets PMAO, and records the instruction's address and MSR[HV,PR]. A tick at which the Time Base bit that
TBSEL selects changes from 0 to 1 is an enabled event with TBEE=1: it does the same with the instruction that completed last, and
with FCECE=1 it sets FC; a tick without an enabled condition or event leaves the Performance Monitor alone (R586, R590, R591,
R593, R594; that the instruction sampled is the `mtspr` itself is log entry 36, that it is the last one completed is the spec's
decision D52). -/
def Obligations.CounterNegativeAlert : Prop :=
  (∀ (rs : Reg) (s : State), s.problem = false → s.cfg.hasPmm = true →
    bit s.pm.mmcr0 37 = true → bit s.pm.mmcr0 48 = true → bit s.pm.mmcr0 50 = false → bit s.pm.mmcr0 38 = false →
    bit (s.readGpr rs) 32 = true →
      ∃ t, exec (.mtspr 787 rs) s = .next t ∧ t.pm.siar = s.cia ∧ (s.run.sdarStale = false → t.pm.sdar = s.pm.sdar)
        ∧ t.pm.pmc = s.pm.pmc.set 0 ((s.readGpr rs).setWidth 32)
        ∧ (∀ i, i < 64 → bit t.pm.mmcr0 i = if i = 37 then false else if i = 56 then true else bit s.pm.mmcr0 i)
        ∧ (∀ i, i < 64 → bit t.pm.mmcra i = if i = 32 then false else if i = 35 then hv s.msr
            else if i = 36 then false else bit s.pm.mmcra i)
        ∧ t = { s with nia := s.cia + 4, pm := t.pm
                       run := { s.run with draws := s.run.draws + 1, siarStale := false, sdarStale := false } })
    ∧ ∀ s : State, s.cfg.hasPmm = true → s.cfg.tbEnabled = true → bit s.pm.mmcr0 50 = false →
        bit s.pm.mmcr0 48 = false → bit s.pm.mmcr0 49 = false →
        let chosen := match (s.pm.mmcr0.extractLsb' 23 2).toNat with
          | 0 => 63
          | 1 => 55
          | 2 => 51
          | _ => 47
        let event := bit s.pm.mmcr0 41 && !bit s.time.tb chosen && bit (s.time.tb + 1) chosen
        let alert := event && bit s.pm.mmcr0 37
        (event = false → s.tick.pm = s.pm)
          ∧ (∀ i, i < 64 → bit s.tick.pm.mmcr0 i =
              if i = 32 then bit s.pm.mmcr0 32 || (event && bit s.pm.mmcr0 38)
              else if i = 37 then bit s.pm.mmcr0 37 && !alert
              else if i = 56 then bit s.pm.mmcr0 56 || alert
              else bit s.pm.mmcr0 i)
          ∧ (alert = true → s.tick.pm.siar = s.run.lastCia ∧ (∀ a, s.run.lastEa = some a → s.tick.pm.sdar = a)
              ∧ bit s.tick.pm.mmcra 32 = s.run.lastEa.isSome ∧ bit s.tick.pm.mmcra 35 = hv s.run.lastMsr
              ∧ bit s.tick.pm.mmcra 36 = pr s.run.lastMsr)

/-- `mfspr` of every register of the SPR table, by the number of each privilege: RT takes the register, zero-extended if it has
32 bits; SIAR and SDAR deliver an undefined value while alerts are armed, while the Trace extensions may be setting them, and
until an alert or a write makes them defined again; nothing else changes (R66, R341, R593, R594, R597; D20; that disarming alerts
leaves SIAR and SDAR undefined is log entry 61). -/
def Obligations.MfsprReadsRegisters : Prop :=
  ∀ (rt : Reg) (s : State),
    let result (v : Word) (d : Nat) : Result :=
      .next { s with nia := s.cia + 4, gpr := s.gpr.set rt.toNat v rt.isLt, run := { s.run with draws := s.run.draws + d } }
    let gives (n : BitVec 10) (v : Word) : Prop := exec (.mfspr rt n) s = result v 0
    let free (n : BitVec 10) : Prop := ∃ v, exec (.mfspr rt n) s = result v 1
    let altering := bit s.pm.mmcr0 37 || (s.cfg.hasTraceExt && (bit s.msr 53 || bit s.msr 54))
    let monitor (base : BitVec 10) : Prop :=
      gives (base + 2) s.pm.mmcra ∧ gives (base + 11) s.pm.mmcr0 ∧ gives (base + 14) s.pm.mmcr1
        ∧ (if altering || s.run.siarStale then free (base + 12) else gives (base + 12) s.pm.siar)
        ∧ (if altering || s.run.sdarStale then free (base + 13) else gives (base + 13) s.pm.sdar)
        ∧ ∀ i : Fin 6, gives (base + 3 + BitVec.ofNat 10 i.val) (s.pm.pmc[i].setWidth 64)
    gives 1 s.bookI.xer ∧ gives 8 s.bookI.lr ∧ gives 9 s.bookI.ctr
      ∧ gives 136 ((s.spr.ctrl ||| (s.cfg.ctrl030 ++ 0#1)).setWidth 64) ∧ gives 259 s.spr.sprg3
      ∧ (s.cfg.hasPmm = true → monitor 768)
      ∧ (s.problem = false →
          gives 18 (s.spr.dsisr.setWidth 64) ∧ gives 19 s.spr.dar ∧ gives 22 (s.time.dec.setWidth 64) ∧ gives 25 s.spr.sdr1
            ∧ gives 26 s.spr.srr0 ∧ gives 27 s.spr.srr1 ∧ gives 29 s.spr.accr ∧ gives 272 s.spr.sprg0
            ∧ gives 273 s.spr.sprg1 ∧ gives 274 s.spr.sprg2 ∧ gives 275 s.spr.sprg3 ∧ gives 287 (s.cfg.pvr.setWidth 64)
            ∧ gives 309 s.time.purr ∧ gives 310 (s.time.hdec.setWidth 64) ∧ gives 1013 s.spr.dabr
            ∧ gives 1015 s.spr.dabrx ∧ gives 1023 (s.cfg.pir.setWidth 64)
            ∧ (s.cfg.hasEar = true → gives 282 (s.spr.ear.setWidth 64))
            ∧ (s.cfg.hasPmm = true → monitor 784))
      ∧ (s.hypervisor = true →
          gives 304 s.spr.hsprg0 ∧ gives 305 s.spr.hsprg1 ∧ gives 312 s.spr.rmor ∧ gives 313 s.spr.hrmor
            ∧ gives 314 s.spr.hsrr0 ∧ gives 315 s.spr.hsrr1 ∧ gives 318 s.spr.lpcr ∧ gives 319 (s.spr.lpidr.setWidth 64))

/-- In hypervisor state, a register that has one number for both moves reads back what was written, in the bits it stores; of
the Performance Monitor's registers, where the write sets nothing off, and SIAR and SDAR where they are not being altered
(R17, R66, R340, R341, R590, R593; D16; that a write makes SIAR and SDAR defined is the model's choice, log entry 61, that EAR
stores all six bits of the Resource ID its choice, log entry 58). -/
def Obligations.MtsprThenMfspr : Prop :=
  ∀ (n : BitVec 10) (rs rt : Reg) (s t : State), s.hypervisor = true →
    let plain : List (BitVec 10) := [1, 8, 9, 18, 19, 22, 25, 26, 27, 29, 272, 273, 274, 275, 304, 305, 309, 310, 312, 313, 314,
      315, 318, 319, 1013, 1015]
    let monitor : List (BitVec 10) := [786, 787, 788, 789, 790, 791, 792, 796, 797, 798]
    (n ∈ plain ∨ (n = 282 ∧ s.cfg.hasEar = true)
      ∨ (s.cfg.hasPmm = true ∧ ((n ∈ monitor ∧ monitorQuiet s.pm.mmcr0) ∨ (n = 795 ∧ monitorQuiet (s.readGpr rs)))
          ∧ ((n = 796 ∨ n = 797) → s.sampleUndefined = false))) →
    exec (.mtspr n rs) s = .next t →
      ∃ u, exec (.mfspr rt n) t = .next u ∧ u.readGpr rt = s.readGpr rs &&& sprStored s.cfg n.toNat

/-! ### The SLB -/

/-- `slbie` outside problem state, with the operand bits the rule asks for and the class of the entry: the valid entries of
the ESID become invalid, every other entry and all else is unchanged, and no displaced mapping of the ESID is left in the
lookaside information. `slbia`: so for every entry but entry 0 (R111, R370, R371; that entry 0 stays is the spec's decision
D40; the displaced mappings are the model's own record for R631 note 13, log entry 55; that of several valid entries of one
ESID every one becomes invalid is the model's choice, log entry 18: R370 speaks of the entry). -/
def Obligations.SlbInvalidation : Prop :=
  (∀ (rb : Reg) (s : State), s.problem = false →
      let b := s.readGpr rb
      let esid : BitVec 36 := b.extractLsb' 28 36
      b &&& 0x7FFFFFF = 0 → (sf s.msr = true ∨ b.extractLsb' 32 32 = 0) →
      (∀ c, s.classOf esid = some c → c = b.getLsbD 27) →
      s.noImplicitBranch (s.advance.invalidateEsid esid) →
        ∃ t, exec (.slbie rb) s = .next t ∧ t.slb.length = s.slb.length
          ∧ (∀ i, (s.slbEntry i).v = true → (s.slbEntry i).esid = esid → (t.slbEntry i).v = false)
          ∧ (∀ i, ¬((s.slbEntry i).v = true ∧ (s.slbEntry i).esid = esid) → t.slbEntry i = s.slbEntry i)
          ∧ (∀ x, x ∈ t.slbGone ↔ x ∈ s.slbGone ∧ x.esid ≠ esid)
          ∧ t = { s with nia := s.cia + 4, slb := t.slb, slbLast := t.slbLast, slbGone := t.slbGone,
                         run := { s.run with draws := t.run.draws } })
    ∧ ∀ s : State, s.problem = false → s.noImplicitBranch s.advance.invalidateSlb →
        ∃ t, exec .slbia s = .next t ∧ t.slb.length = s.slb.length ∧ t.slbEntry 0 = s.slbEntry 0
          ∧ (∀ i, i ≠ 0 → (t.slbEntry i).v = false)
          ∧ t = { s with nia := s.cia + 4, slb := t.slb, slbLast := t.slbLast, slbGone := [],
                         run := { s.run with draws := t.run.draws } }

/-- `slbmte` outside problem state, with the operand bits the rule asks for: the entry that RB[52:63] selects takes the
fields of Figure 32, every other entry and all else is unchanged. It changes no mapping that is not invalidated (R373, R631 note
13; where it would, there is no successor state: log entry 55). -/
def Obligations.SlbmteLoadsEntry : Prop :=
  ∀ (rs rb : Reg) (s : State) (i : Nat), s.problem = false → i < s.slb.length →
    let a := s.readGpr rs
    let b := s.readGpr rb
    let e : SlbEntry := { esid := b.extractLsb' 28 36, v := true, vsid := a.extractLsb' 12 52, ks := a.getLsbD 11,
                          kp := a.getLsbD 10, n := a.getLsbD 9, l := a.getLsbD 8, c := a.getLsbD 7 }
    a &&& 0x7F = 0 → a.toNat < 2 ^ (s.cfg.virtualBits - 16) → b &&& 0x7FFF000 = 0 → (b.extractLsb' 0 12).toNat = i →
    b.getLsbD 27 = true → (sf s.msr = true ∨ b.extractLsb' 32 32 = 0) → (e.l = true → s.cfg.largePages = true) →
    (∀ x, (x ∈ s.slb ∧ x.v = true) ∨ x ∈ s.slbGone → x.esid = e.esid → x = e) →
    s.noImplicitBranch (s.advance.setSlbEntry i e) →
      ∃ t, exec (.slbmte rs rb) s = .next t ∧ t.slbEntry i = e
        ∧ t = { s with nia := s.cia + 4, slb := s.slb.set i e, slbLast := t.slbLast, slbGone := t.slbGone }

/-- `slbmfev` and `slbmfee` outside problem state: RT takes the images of R374, with RT[0:79-n] zeros, and R375; of an invalid
entry RT is undefined, but for RT[36] = 0 of `slbmfee`; nothing else changes. -/
def Obligations.SlbMoveFromEntry : Prop :=
  ∀ (rt rb : Reg) (s : State) (i : Nat), s.problem = false → i < s.slb.length → i < 4096 →
    s.readGpr rb = BitVec.ofNat 64 i →
    let e := s.slbEntry i
    let gives (x : Instr) (v : Word) (d : Nat) : Prop :=
      exec x s = .next { s with nia := s.cia + 4, gpr := s.gpr.set rt.toNat v rt.isLt,
                                run := { s.run with draws := s.run.draws + d } }
    (e.v = true → gives (.slbmfev rt rb)
        ((e.vsid ++ BitVec.ofBool e.ks ++ BitVec.ofBool e.kp ++ BitVec.ofBool e.n ++ BitVec.ofBool e.l ++ BitVec.ofBool e.c
          ++ 0#7) &&& ((1#64 <<< (s.cfg.virtualBits - 16)) - 1)) 0
        ∧ gives (.slbmfee rt rb) (e.esid ++ 1#1 ++ 0#27) 0)
      ∧ (e.v = false → (∃ v, gives (.slbmfev rt rb) v 1) ∧ ∃ v, gives (.slbmfee rt rb) v 1 ∧ bit v 36 = false)

/-- What `slbmte` writes, `slbmfev` and `slbmfee` read back: RS whole, and RB without its index (R373, R374, R375). -/
def Obligations.SlbmteThenReadBack : Prop :=
  ∀ (rs rb rt rc : Reg) (s t : State), exec (.slbmte rs rb) s = .next t → s.problem = false →
    t.readGpr rc = s.readGpr rb &&& 0xFFF →
      ∃ u v, exec (.slbmfev rt rc) t = .next u ∧ u.readGpr rt = s.readGpr rs
        ∧ exec (.slbmfee rt rc) t = .next v ∧ v.readGpr rt = s.readGpr rb &&& ~~~0x7FFFFFF

/-! ### The TLB -/

/-- `tlbie` and `tlbiel` in hypervisor state and 64-bit mode, with the operand bits the rules ask for: exactly the TLB
entries of the page size of L with VPN[32:79-p] = (RB)[16:63-p] go, and nothing else changes (R8, R390, R391; one processor, log
entry 44; that `tlbie` takes no further entry with it is the model's choice, log entry 43). -/
def Obligations.TlbInvalidateEntry : Prop :=
  ∀ (rb : Reg) (l : Bool) (s : State), s.hypervisor = true → s.cfg.hasTlb = true → sf s.msr = true →
    s.cfg.largePageBits ≤ 28 →
    let b := s.readGpr rb
    let p := if l then s.cfg.largePageBits else 12
    b.toNat < 2 ^ 48 → s.noImplicitBranch (s.advance.invalidateTlb b l) →
      (∃ t, exec (.tlbie rb l) s = .next t ∧ t = { s with nia := s.cia + 4, tlb := t.tlb }
          ∧ ∀ e, e ∈ t.tlb ↔ e ∈ s.tlb ∧ ¬(e.large = l ∧ e.vpn.toNat % 2 ^ (48 - p) = b.toNat / 2 ^ p))
        ∧ (s.cfg.hasTlbiel = true → b &&& 0xFFF = 0 →
          ∃ t, exec (.tlbiel rb l) s = .next t ∧ t = { s with nia := s.cia + 4, tlb := t.tlb }
            ∧ ∀ e, e ∈ t.tlb ↔ e ∈ s.tlb ∧ ¬(e.large = l ∧ e.vpn.toNat % 2 ^ (48 - p) = b.toNat / 2 ^ p))

/-- `tlbia` empties the TLB; `tlbsync` and `ptesync` only go on: one processor has every update in storage already (R392, R396,
R398; D26). `ptesync` does so in every state. -/
def Obligations.TlbInvalidateAllAndBarriers : Prop :=
  ∀ s : State,
    (s.hypervisor = true → s.cfg.hasTlb = true → s.cfg.hasTlbia = true →
        s.noImplicitBranch { s with nia := s.cia + 4, tlb := [] } →
          exec .tlbia s = .next { s with nia := s.cia + 4, tlb := [] })
      ∧ (s.hypervisor = true → s.cfg.hasTlb = true → s.cfg.hasTlbsync = true →
          exec .tlbsync s = .next { s with nia := s.cia + 4 })
      ∧ exec .ptesync s = .next { s with nia := s.cia + 4 }

/-! ### Load and Store Quadword -/

/-- `lq` and `stq` in real addressing mode, in valid form, aligned, with no breakpoint armed and, with Real Mode Storage
Control, LPCR[RMI]=0 or HV=0 (without it R412 has no W or I cause there, log entry 57): with HV=1 the operand is at EA[2:63],
ORed with HRMOR when EA[0]=0 (and EA[2:63-m] zeros), and with HV=0, LPES1=1 and the address below the limit it is at EA[2:63]
ORed with RMOR; `lq` loads RT and RT+1 from the sixteen bytes there, `stq` stores RS and RS+1 there; every other register and
every other byte is unchanged. `stq` ends a reservation on the granule of its operand and keeps one on another granule (R8,
R152, R154, R156, R410, R411, R412; byte order by the spec's decision D23, the limits by D14, which bits are compared with the
limit D24; the size of the granule is log entry 27). -/
def Obligations.QuadInRealMode : Prop :=
  ∀ (r ra : Reg) (dq : BitVec 12) (ds : BitVec 14) (s : State), s.cfg.hasLqstq = true → s.realData →
    s.breakpointsOff → (s.cfg.hasRmsc && hv s.msr && rmi s.spr.lpcr) = false → r.getLsbD 0 = false →
    let real (ea : Word) (a : RealAddr) : Prop :=
      let x : RealAddr := ea.extractLsb' 0 62
      if hv s.msr then
        if bit ea 0 then a = x else x.toNat < 2 ^ s.cfg.realBits ∧ a = x ||| s.spr.hrmor.extractLsb' 0 62
      else bit s.spr.lpcr 61 = true
        ∧ (if s.cfg.rmlrIgnoreHigh then x.toNat % 2 ^ s.cfg.realBits else x.toNat)
            < 2 ^ s.cfg.rmlsTable[(field s.spr.lpcr 35 3).toNat]!
        ∧ a.toNat = (x ||| s.spr.rmor.extractLsb' 0 62).toNat % 2 ^ s.cfg.realBits
    (∀ a, let ea := lqEa s dq ra
       r ≠ ra → ea &&& 15 = 0 → real ea a → absentHit s.cfg a 16 = false →
       ∃ t, exec (.lq r dq ra) s = .next t
         ∧ t.readGpr r = s.readDw a ∧ t.readGpr (r ||| 1) = s.readDw (a + 8)
         ∧ (∀ q : Reg, q ≠ r → q ≠ r ||| 1 → t.readGpr q = s.readGpr q)
         ∧ t = { s with nia := s.cia + 4, gpr := t.gpr, run := t.run })
    ∧ ∀ a, let ea := stqEa s ds ra
       ea &&& 15 = 0 → real ea a → absentHit s.cfg a 16 = false →
       s.noImplicitBranch ((s.drawn 3).storeQuad r a ea) →
         ∃ t, exec (.stq r ds ra) s = .next t
           ∧ t.readDw a = s.readGpr r ∧ t.readDw (a + 8) = s.readGpr (r ||| 1)
           ∧ (∀ x : RealAddr, ¬within x a 16 → t.byte x = s.byte x)
           ∧ (∀ g, t.bookI.reservation = some g ↔ s.bookI.reservation = some g
               ∧ g.toNat / 2 ^ s.cfg.granuleLog2 ≠ a.toNat / 2 ^ s.cfg.granuleLog2)
           ∧ t = { s with nia := s.cia + 4, mem := t.mem, bookI := { s.bookI with reservation := t.bookI.reservation },
                          run := t.run }

/-- `lq` and `stq` through the SLB and the Page Table or TLB, where every check passes: the operand is at RPN and byte
offset, and the only other storage that changes is the byte of the Page Table Entry that holds R, and for `stq` the byte that
holds C, each only where the bit was 0 (R175, R222, R410, R411; D15, D25; an Effective Address Overflow is outside the statement,
log entry 63). -/
def Obligations.QuadThroughTranslation : Prop :=
  ∀ (r ra : Reg) (dq : BitVec 12) (ds : BitVec 14) (s : State) (b : SlbEntry) (e : TlbEntry) (cached : Bool),
    s.cfg.hasLqstq = true → s.problem = false → dr s.msr = true → s.run.overflow = false → s.breakpointsOff →
    r.getLsbD 0 = false →
    bit e.dw1 54 = false → bit e.dw1 57 = false → bit e.dw1 58 = false →
    (let ea := lqEa s dq ra
     let a := e.realAddress s.cfg ea
     r ≠ ra → ea &&& 15 = 0 → s.path true ea = .mapped b e cached → mayRead b.ks (e.dw1.extractLsb' 0 2) = true →
     absentHit s.cfg a 16 = false → recordAbsent s.cfg e false = false →
       ∃ t, exec (.lq r dq ra) s = .next t
         ∧ t.readGpr r = t.readDw a ∧ t.readGpr (r ||| 1) = t.readDw (a + 8)
         ∧ (∀ q : Reg, q ≠ r → q ≠ r ||| 1 → t.readGpr q = s.readGpr q)
         ∧ (∀ x : RealAddr, t.byte x =
             if x = e.pteAddr + 14 ∧ bit e.dw1 55 = false then s.byte x ||| 1 else s.byte x)
         ∧ t = { s with nia := s.cia + 4, gpr := t.gpr, mem := t.mem, tlb := t.tlb, run := t.run })
    ∧ (let ea := stqEa s ds ra
       let a := e.realAddress s.cfg ea
       ea &&& 15 = 0 → s.path true ea = .mapped b e cached → mayWrite b.ks (e.dw1.extractLsb' 0 2) = true →
       absentHit s.cfg a 16 = false → recordAbsent s.cfg e true = false →
       s.noImplicitBranch (((s.drawn 3).record e cached true).storeQuad r a ea) →
         ∃ t, exec (.stq r ds ra) s = .next t
           ∧ t.readDw a = s.readGpr r ∧ t.readDw (a + 8) = s.readGpr (r ||| 1)
           ∧ (∀ x : RealAddr, ¬within x a 16 → t.byte x =
               if x = e.pteAddr + 14 ∧ bit e.dw1 55 = false then s.byte x ||| 1
               else if x = e.pteAddr + 15 ∧ bit e.dw1 56 = false then s.byte x ||| 0x80
               else s.byte x)
           ∧ t = { s with nia := s.cia + 4, mem := t.mem, tlb := t.tlb,
                          bookI := { s.bookI with reservation := t.bookI.reservation }, run := t.run })

/-- In real addressing mode, what `stq` has stored, `lq` of the same operand loads (R410, R411). -/
def Obligations.StqThenLq : Prop :=
  ∀ (rs rt ra : Reg) (ds : BitVec 14) (dq : BitVec 12) (s t u : State),
    s.realData → s.run.trapped = false →
    exec (.stq rs ds ra) s = .next t → t.run.trapped = false →
    exec (.lq rt dq ra) t = .next u → u.run.trapped = false → lqEa t dq ra = stqEa s ds ra →
      u.readGpr rt = s.readGpr rs ∧ u.readGpr (rt ||| 1) = s.readGpr (rs ||| 1)

/-! ### The Bridge -/

/-- `mtsr` and `mtsrin` outside problem state and in 32-bit mode, with RS[36]=0: SLB entry SR, or the one that RB[32:35]
selects, becomes a valid entry of ESID SR with the fields of Figure 42; nothing else changes (R425, R426, R427). -/
def Obligations.MoveToSegmentRegister : Prop :=
  ∀ (sr : BitVec 4) (rs rb : Reg) (s : State), s.cfg.hasBridge = true → s.problem = false → sf s.msr = false →
    16 ≤ s.slb.length →
    let v := s.readGpr rs
    let e : SlbEntry := { esid := sr.setWidth 36, v := true, vsid := (v.extractLsb' 0 27).setWidth 52, ks := v.getLsbD 30,
                          kp := v.getLsbD 29, n := v.getLsbD 28, l := false, c := false }
    v.getLsbD 27 = false → s.noImplicitBranch (s.advance.setSlbEntry sr.toNat e) →
      ∃ t, exec (.mtsr sr rs) s = .next t ∧ t.slbEntry sr.toNat = e
        ∧ t = { s with nia := s.cia + 4, slb := s.slb.set sr.toNat e, slbLast := t.slbLast, slbGone := t.slbGone }
        ∧ ((s.readGpr rb).extractLsb' 28 4 = sr → exec (.mtsrin rs rb) s = .next t)

/-- `mfsr` and `mfsrin` outside problem state and in 32-bit mode: RT[32:63] is the Segment Register's image if the SLB entry
has the form of one, and otherwise RT is undefined; RT[0:31] are undefined; nothing else changes. What `mtsr` writes, `mfsr` of
the same Segment Register reads back in RT[33:63], with RT[32] = 0 (R426, R428, R429). -/
def Obligations.MoveFromSegmentRegister : Prop :=
  (∀ (sr : BitVec 4) (rt rb : Reg) (s : State), s.cfg.hasBridge = true → s.problem = false → sf s.msr = false →
    let e := s.slbEntry sr.toNat
    ∃ v, exec (.mfsr rt sr) s = .next { s with nia := s.cia + 4, gpr := s.gpr.set rt.toNat v rt.isLt,
                                               run := { s.run with draws := s.run.draws + 1 } }
      ∧ ((s.readGpr rb).extractLsb' 28 4 = sr → exec (.mfsrin rt rb) s = exec (.mfsr rt sr) s)
      ∧ (e.v = true → e.esid.toNat < 16 → e.vsid.toNat < 2 ^ 27 → e.l = false → e.c = false →
          v.extractLsb' 0 32 = 0#1 ++ BitVec.ofBool e.ks ++ BitVec.ofBool e.kp ++ BitVec.ofBool e.n ++ 0#1
            ++ e.vsid.extractLsb' 0 27))
    ∧ ∀ (sr : BitVec 4) (rs rt : Reg) (s t : State), s.problem = false → s.cfg.hasBridge = true → 16 ≤ s.slb.length →
        exec (.mtsr sr rs) s = .next t →
          ∃ u, exec (.mfsr rt sr) t = .next u
            ∧ (u.readGpr rt).extractLsb' 0 32 = (s.readGpr rs).extractLsb' 0 32 &&& 0x7FFFFFFF

/-! ### From an effective address to storage -/

/-- With MSR[HV]=1 and EA[0]=1 a real mode access uses EA[2:63] as the real address (R152). -/
def Obligations.RealModeWithoutOffset : Prop :=
  ∀ (s : State) (ea : Word), hv s.msr = true → le s.msr = false → bit ea 0 = true →
    s.path false ea = .real (ea.extractLsb' 0 62)

/-- Real mode otherwise: with HV=1 and EA[0]=0 the address is ORed with HRMOR, and one with EA[2:63-m] not zeros has no successor
state, as R154 requires zeros; with HV=0 there is no access if LPES1=0 or EA[2:63] reaches the limit, and else the address is ORed
with RMOR and has m bits; a fetch without access is an Instruction Storage interrupt with SRR1[36]=1 (R8, R150, R153, R154, R156;
the limits are the spec's decision D14, which bits are compared with them D24). -/
def Obligations.RealModeWithOffset : Prop :=
  ∀ (s : State) (ea : Word), le s.msr = false →
    let a : RealAddr := ea.extractLsb' 0 62
    let below := (if s.cfg.rmlrIgnoreHigh then a.toNat % 2 ^ s.cfg.realBits else a.toNat)
      < 2 ^ s.cfg.rmlsTable[(field s.spr.lpcr 35 3).toNat]!
    (hv s.msr = true → bit ea 0 = false →
        (a.toNat < 2 ^ s.cfg.realBits → s.path false ea = .real (a ||| s.spr.hrmor.extractLsb' 0 62))
          ∧ (2 ^ s.cfg.realBits ≤ a.toNat → s.path false ea = .refuse .realAddressRange))
      ∧ (hv s.msr = false → bit s.spr.lpcr 61 = false → s.path false ea = .denied)
      ∧ (hv s.msr = false → bit s.spr.lpcr 61 = true →
          (¬below → s.path false ea = .denied)
            ∧ (below → ∃ x : RealAddr, s.path false ea = .real x
                ∧ x.toNat = (a ||| s.spr.rmor.extractLsb' 0 62).toNat % 2 ^ s.cfg.realBits))
      ∧ (ir s.msr = false → s.path false s.cia = .denied →
          ∃ t, s.fetch = .trap t ∧ t.enteredFrom s .instStorage ∧ t.spr.srr0 = s.cia
            ∧ t.spr.srr1 &&& ~~~0x10000 = (s.msr &&& ~~~0x783F0000) ||| 0x08000000 ∧ t.gpr = s.gpr ∧ t.mem = s.mem)

/-- The virtual address is the VSID of the entry and EA[36:63], and the virtual page number its bits 0:79-p (R204). -/
def Obligations.VirtualAddress : Prop :=
  ∀ (c : Params) (e : SlbEntry) (ea : Word) (large : Bool),
    (virtualAddress e ea).toNat = e.vsid.toNat * 2 ^ 28 + ea.toNat % 2 ^ 28
      ∧ (vpnOf c large (virtualAddress e ea)).toNat =
          (virtualAddress e ea).toNat / 2 ^ (if large then c.largePageBits else 12)

/-- The Page Table search. The hash is the low-order 39 bits of the VSID XOR the page index; the address of a group is SDR1[2:17],
then hash bits 0:27 under the mask of HTABSIZE ORed with SDR1[18:45], then hash bits 28:38, then seven zeros; an entry matches if
H, V, L and the compared bits of AVPN are right; the candidates are the eight entries of the group of the hash, and with H=1 those
of the group of its complement; the search fails exactly if none matches. The TLB is searched first: it answers with one of its
entries for the virtual page, and only without one is the Page Table searched; a search whose matches agree answers with the
virtual page, doubleword 1 and the address of one of them (R110, R215, R216, R217, R218, R220, R225; a table address with
low-order bits is the spec's decision D31, that no address is an SLS address its decision D32, which R218 follows for an entry of
the other page size, log entry 56). -/
def Obligations.PageTableSearch : Prop :=
  (∀ (c : Params) (large : Bool) (va : BitVec 80),
      (primaryHash c large va).toNat =
        Nat.xor (va.toNat / 2 ^ 28 % 2 ^ 39) (va.toNat % 2 ^ 28 / 2 ^ (if large then c.largePageBits else 12)))
    ∧ (∀ (sdr1 : Word) (h : BitVec 39), htabSize sdr1 ≤ 28 →
        (ptegAddr sdr1 h).toNat =
          (sdr1.toNat / 2 ^ 46 % 2 ^ 16) * 2 ^ 46
            + Nat.lor (h.toNat / 2 ^ 11 % 2 ^ htabSize sdr1) (sdr1.toNat / 2 ^ 18 % 2 ^ 28) * 2 ^ 18
            + h.toNat % 2 ^ 11 * 2 ^ 7)
    ∧ (∀ (c : Params) (t : Pte) (large second : Bool) (va : BitVec 80), t.hits c large second va = true ↔
        let q := min 5 (28 - if large then c.largePageBits else 12)
        bit t.dw0 62 = second ∧ bit t.dw0 63 = true ∧ bit t.dw0 61 = large
          ∧ t.dw0.toNat / 2 ^ (12 - q) = va.toNat / 2 ^ (28 - q))
    ∧ (∀ (s : State) (large : Bool) (va : BitVec 80) (t : Pte), t ∈ s.pteMatches large va ↔
        ∃ (second : Bool) (i : Fin 8),
          let h := if second then ~~~primaryHash s.cfg large va else primaryHash s.cfg large va
          let a := ptegAddr s.spr.sdr1 h + BitVec.ofNat 62 (16 * i.val)
          t = ⟨a, s.readDw a, s.readDw (a + 8)⟩ ∧ t.hits s.cfg large second va = true)
    ∧ (∀ (s : State) (large : Bool) (va : BitVec 80),
        htabSize s.spr.sdr1 ≤ s.cfg.htabSizeMax → s.ptegAbsent large va = false →
          (s.searchTable large va = .miss ↔ s.pteMatches large va = [])
            ∧ ((∃ t ∈ s.pteMatches large va, t.proper s.cfg large = true) →
                (∀ t ∈ s.pteMatches large va, ∀ u ∈ s.pteMatches large va, t.same u = true ∧
                  t.proper s.cfg large = u.proper s.cfg large) →
                  ∃ t ∈ s.pteMatches large va, s.searchTable large va =
                    .hit ⟨va >>> (if large then s.cfg.largePageBits else 12), large, t.dw1, t.addr⟩ false))
    ∧ ∀ (s : State) (large : Bool) (va : BitVec 80),
        let cached (e : TlbEntry) : Prop := s.cfg.hasTlb = true ∧ e ∈ s.tlb ∧ e.large = large
          ∧ e.vpn = va >>> (if large then s.cfg.largePageBits else 12)
        ((∃ e, cached e) → ∃ e, cached e ∧ s.lookup large va = .hit e true)
          ∧ ((¬∃ e, cached e) → s.lookup large va = s.searchTable large va)

/-- The real address is RPN[0:61-p] of the Page Table Entry and the byte offset EA[64-p:63] (R222). -/
def Obligations.RealAddressOfPage : Prop :=
  ∀ (c : Params) (e : TlbEntry) (ea : Word), c.largePageBits ≤ 28 →
    let p := if e.large then c.largePageBits else 12
    (e.realAddress c ea).toNat = e.dw1.toNat % 2 ^ 62 / 2 ^ p * 2 ^ p + ea.toNat % 2 ^ p

/-- Recording R and C alters no bit of storage but the R bit and, for a store, the C bit of the Page Table Entry, and clears
none (R16, R175, R179; the spec's decision D15). -/
def Obligations.RecordingSetsOnlyRC : Prop :=
  ∀ (s : State) (e : TlbEntry) (cached store : Bool),
    let t := s.record e cached store
    (∀ x : RealAddr, x ≠ e.pteAddr + 14 → x ≠ e.pteAddr + 15 → t.byte x = s.byte x)
      ∧ t.byte (e.pteAddr + 14) = (if bit e.dw1 55 then s.byte (e.pteAddr + 14) else s.byte (e.pteAddr + 14) ||| 1)
      ∧ t.byte (e.pteAddr + 15) =
          (if store = false ∨ bit e.dw1 56 = true then s.byte (e.pteAddr + 15) else s.byte (e.pteAddr + 15) ||| 0x80)
      ∧ (Memory.wf s.mem = true → Memory.wf t.mem = true)
      ∧ t = { s with mem := t.mem, tlb := t.tlb }

/-- A doubleword stored reads back, its most significant byte lies at the lowest address, no other byte changes, and storage
keeps its canonical form (R131, the spec's decision D23). -/
def Obligations.DoublewordStorage : Prop :=
  ∀ (s : State) (a : RealAddr) (x : Word),
    (s.writeDw a x).readDw a = x
      ∧ (s.writeDw a x).byte a = x.extractLsb' 56 8 ∧ (s.writeDw a x).byte (a + 7) = x.extractLsb' 0 8
      ∧ (∀ y : RealAddr, ¬within y a 8 → (s.writeDw a x).byte y = s.byte y)
      ∧ (Memory.wf s.mem = true → Memory.wf (s.writeDw a x).mem = true)

end Statements
end

