-- ==== Sys2Proof/Laws/Memory.lean ====
section
/-! SUPPORT. Laws of real storage: a byte written reads back, every other byte is left alone, and the canonical form is kept. -/

namespace Sys2Proof.Machine

/-! ### Reading after an operation on the list -/

theorem Memory.read_cons (c : Host.Cell) (t : List Host.Cell) (a : Nat) :
    Memory.read (c :: t) a = if c.1 = a then c.2 else Memory.read t a := rfl

theorem Memory.read_erase (m : List Host.Cell) (a b : Nat) :
    Memory.read (Memory.erase m a) b = if b = a then Memory.unlisted else Memory.read m b := by
  induction m with
  | nil => simp [Memory.erase, Memory.read]
  | cons c t ih =>
    simp only [Memory.erase, List.filter_cons] at ih ⊢
    by_cases h : c.1 = a
    · simp only [h, bne_self_eq_false, Bool.false_eq_true, if_false, ih, Memory.read_cons]
      split <;> simp_all [eq_comm]
    · simp only [bne_iff_ne, ne_eq, h, not_false_eq_true, if_true, Memory.read_cons, ih]
      split <;> simp_all

theorem Memory.read_put (m : List Host.Cell) (a b : Nat) (v : Byte) (h : ∀ c ∈ m, c.1 ≠ a) :
    Memory.read (Memory.put m a v) b = if b = a then v else Memory.read m b := by
  induction m with
  | nil => simp [Memory.put, Memory.read, eq_comm]
  | cons c t ih =>
    have hc : c.1 ≠ a := h c (by simp)
    have ht := ih fun d hd => h d (by simp [hd])
    unfold Memory.put
    split
    · simp [Memory.read_cons, eq_comm]
    · simp only [Memory.read_cons, ht]
      split <;> simp_all

/-- A byte written reads back, and every other byte reads as before. -/
theorem Memory.read_write (m : List Host.Cell) (a b : Nat) (v : Byte) :
    Memory.read (Memory.write m a v) b = if b = a then v else Memory.read m b := by
  unfold Memory.write
  split
  · rename_i h
    rw [Memory.read_erase, h]
  · rw [Memory.read_put, Memory.read_erase]
    · split <;> rfl
    · intro c hc
      simpa [Memory.erase] using (List.mem_filter.mp hc).2

/-! ### The canonical form -/

/-- The canonical form in words: strictly rising addresses and no entry that says what an unlisted address says. -/
theorem Memory.wf_iff (m : List Host.Cell) :
    Memory.wf m = true ↔ m.Pairwise (fun c d => c.1 < d.1) ∧ ∀ c ∈ m, c.2 ≠ Memory.unlisted := by
  induction m with
  | nil => simp [Memory.wf]
  | cons c t ih =>
    cases t with
    | nil => simp [Memory.wf]
    | cons d t =>
      have : Memory.wf (c :: d :: t) = (c.2 != Memory.unlisted && decide (c.1 < d.1) && Memory.wf (d :: t)) := rfl
      rw [this, Bool.and_eq_true, Bool.and_eq_true, ih]
      simp only [bne_iff_ne, ne_eq, decide_eq_true_eq, List.pairwise_cons, List.mem_cons, forall_eq_or_imp]
      constructor
      · rintro ⟨⟨h1, h2⟩, ⟨h3, h4⟩, h5, h6⟩
        exact ⟨⟨⟨h2, fun e he => Nat.lt_trans h2 (h3 e he)⟩, h3, h4⟩, h1, h5, h6⟩
      · rintro ⟨⟨⟨h2, _⟩, h3, h4⟩, h1, h5, h6⟩
        exact ⟨⟨h1, h2⟩, ⟨h3, h4⟩, h5, h6⟩

theorem Memory.wf_erase (m : List Host.Cell) (a : Nat) (h : Memory.wf m = true) : Memory.wf (Memory.erase m a) = true := by
  rw [Memory.wf_iff] at h ⊢
  exact ⟨h.1.filter _, fun c hc => h.2 c (List.mem_filter.mp hc).1⟩

theorem Memory.mem_put (m : List Host.Cell) (a : Nat) (v : Byte) (c : Host.Cell) :
    c ∈ Memory.put m a v ↔ c = (a, v) ∨ c ∈ m := by
  induction m with
  | nil => simp [Memory.put]
  | cons d t ih =>
    obtain ⟨b, w⟩ := d
    unfold Memory.put
    split
    · simp
    · simp [ih, or_left_comm]

theorem Memory.wf_put (m : List Host.Cell) (a : Nat) (v : Byte) (h : Memory.wf m = true) (ha : ∀ c ∈ m, c.1 ≠ a)
    (hv : v ≠ Memory.unlisted) : Memory.wf (Memory.put m a v) = true := by
  rw [Memory.wf_iff] at h ⊢
  refine ⟨?_, fun c hc => ?_⟩
  · induction m with
    | nil => simp [Memory.put]
    | cons d t ih =>
      have hd := List.pairwise_cons.mp h.1
      unfold Memory.put
      split
      · rename_i hlt
        refine List.pairwise_cons.mpr ⟨fun e he => ?_, h.1⟩
        rcases List.mem_cons.mp he with rfl | he
        · exact hlt
        · exact Nat.lt_trans hlt (hd.1 e he)
      · rename_i hlt
        refine List.pairwise_cons.mpr ⟨fun e he => ?_, ih ⟨hd.2, fun c hc => h.2 c (by simp [hc])⟩ fun c hc =>
          ha c (by simp [hc])⟩
        have hne : d.1 ≠ a := ha d (by simp)
        rcases (Memory.mem_put t a v e).mp he with rfl | he
        · exact Nat.lt_of_le_of_ne (Nat.le_of_not_lt hlt) hne
        · exact hd.1 e he
  · rcases (Memory.mem_put m a v c).mp hc with rfl | hc
    · exact hv
    · exact h.2 c hc

/-- A write keeps the canonical form. -/
theorem Memory.wf_write (m : List Host.Cell) (a : Nat) (v : Byte) (h : Memory.wf m = true) :
    Memory.wf (Memory.write m a v) = true := by
  unfold Memory.write
  split
  · exact Memory.wf_erase m a h
  · rename_i hv
    refine Memory.wf_put _ a v (Memory.wf_erase m a h) (fun c hc => ?_) hv
    simpa [Memory.erase] using (List.mem_filter.mp hc).2

/-- Several bytes written keep the canonical form. -/
theorem Memory.wf_writeAll (m : List Host.Cell) (cs : List (RealAddr × Byte)) (h : Memory.wf m = true) :
    Memory.wf (Memory.writeAll m cs) = true := by
  induction cs generalizing m with
  | nil => exact h
  | cons c cs ih => exact ih _ (Memory.wf_write m _ _ h)

/-- Several bytes written: of those written to an address the last one counts. -/
theorem Memory.read_writeAll (m : List Host.Cell) (cs : List (RealAddr × Byte)) (b : Nat) :
    Memory.read (Memory.writeAll m cs) b =
      ((cs.reverse.find? fun c => c.1.toNat == b).map fun c => c.2).getD (Memory.read m b) := by
  induction cs generalizing m with
  | nil => rfl
  | cons c cs ih =>
    have h := ih (Memory.write m c.1.toNat c.2)
    simp only [Memory.writeAll, List.foldl_cons] at h ⊢
    rw [h, Memory.read_write, List.reverse_cons, List.find?_append]
    by_cases hb : c.1.toNat = b
    · cases cs.reverse.find? fun c => c.1.toNat == b <;> simp [hb]
    · have hc : b ≠ c.1.toNat := Ne.symm hb
      cases cs.reverse.find? fun c => c.1.toNat == b <;> simp [hb, hc]

/-- The storage after reset is in canonical form. -/
theorem Memory.wf_reset : Memory.wf State.reset.mem = true := rfl

/-! ### Bytes of the state -/

theorem State.byte_setByte (s : State) (a b : RealAddr) (v : Byte) :
    (s.setByte a v).byte b = if b = a then v else s.byte b := by
  simp only [State.byte, State.setByte, Memory.read_write, BitVec.toNat_inj]

theorem State.wf_setByte (s : State) (a : RealAddr) (v : Byte) (h : Memory.wf s.mem = true) :
    Memory.wf (s.setByte a v).mem = true := Memory.wf_write _ _ _ h

/-- A doubleword written, as eight bytes. -/
theorem State.writeDw_eq (s : State) (a : RealAddr) (x : Word) : s.writeDw a x =
    (((((((s.setByte a (byteOf x 0)).setByte (a + 1) (byteOf x 1)).setByte (a + 2) (byteOf x 2)).setByte (a + 3)
      (byteOf x 3)).setByte (a + 4) (byteOf x 4)).setByte (a + 5) (byteOf x 5)).setByte (a + 6) (byteOf x 6)).setByte
      (a + 7) (byteOf x 7) := by
  simp only [State.writeDw, Memory.writeDw, State.setByte]

theorem State.wf_writeDw (s : State) (a : RealAddr) (x : Word) (h : Memory.wf s.mem = true) :
    Memory.wf (s.writeDw a x).mem = true := by
  rw [State.writeDw_eq]
  repeat apply State.wf_setByte
  exact h

end Sys2Proof.Machine
end

