-- ==== Sys2Proof/Laws/State.lean ====
section
/-! SUPPORT. One lemma per field per update of the state, so that no proof unfolds a record update. -/

namespace Sys2Proof.Machine

variable (s : State)

/-! ### State.setGpr -/

@[simp] theorem State.setGpr_gpr (r : Reg) (v : Word) : (s.setGpr r v).gpr = s.gpr.set r.toNat v r.isLt := rfl
@[simp] theorem State.setGpr_nia (r : Reg) (v : Word) : (s.setGpr r v).nia = s.nia := rfl
@[simp] theorem State.setGpr_bookI (r : Reg) (v : Word) : (s.setGpr r v).bookI = s.bookI := rfl
@[simp] theorem State.setGpr_msr (r : Reg) (v : Word) : (s.setGpr r v).msr = s.msr := rfl
@[simp] theorem State.setGpr_spr (r : Reg) (v : Word) : (s.setGpr r v).spr = s.spr := rfl
@[simp] theorem State.setGpr_slb (r : Reg) (v : Word) : (s.setGpr r v).slb = s.slb := rfl
@[simp] theorem State.setGpr_slbLast (r : Reg) (v : Word) : (s.setGpr r v).slbLast = s.slbLast := rfl
@[simp] theorem State.setGpr_slbGone (r : Reg) (v : Word) : (s.setGpr r v).slbGone = s.slbGone := rfl
@[simp] theorem State.setGpr_tlb (r : Reg) (v : Word) : (s.setGpr r v).tlb = s.tlb := rfl
@[simp] theorem State.setGpr_mem (r : Reg) (v : Word) : (s.setGpr r v).mem = s.mem := rfl
@[simp] theorem State.setGpr_time (r : Reg) (v : Word) : (s.setGpr r v).time = s.time := rfl
@[simp] theorem State.setGpr_pm (r : Reg) (v : Word) : (s.setGpr r v).pm = s.pm := rfl
@[simp] theorem State.setGpr_pend (r : Reg) (v : Word) : (s.setGpr r v).pend = s.pend := rfl
@[simp] theorem State.setGpr_checkstop (r : Reg) (v : Word) : (s.setGpr r v).checkstop = s.checkstop := rfl
@[simp] theorem State.setGpr_cfg (r : Reg) (v : Word) : (s.setGpr r v).cfg = s.cfg := rfl
@[simp] theorem State.setGpr_run (r : Reg) (v : Word) : (s.setGpr r v).run = s.run := rfl

/-! ### State.advance -/

@[simp] theorem State.advance_gpr : (s.advance).gpr = s.gpr := rfl
@[simp] theorem State.advance_nia : (s.advance).nia = s.cia + 4 := rfl
@[simp] theorem State.advance_bookI : (s.advance).bookI = s.bookI := rfl
@[simp] theorem State.advance_msr : (s.advance).msr = s.msr := rfl
@[simp] theorem State.advance_spr : (s.advance).spr = s.spr := rfl
@[simp] theorem State.advance_slb : (s.advance).slb = s.slb := rfl
@[simp] theorem State.advance_slbLast : (s.advance).slbLast = s.slbLast := rfl
@[simp] theorem State.advance_slbGone : (s.advance).slbGone = s.slbGone := rfl
@[simp] theorem State.advance_tlb : (s.advance).tlb = s.tlb := rfl
@[simp] theorem State.advance_mem : (s.advance).mem = s.mem := rfl
@[simp] theorem State.advance_time : (s.advance).time = s.time := rfl
@[simp] theorem State.advance_pm : (s.advance).pm = s.pm := rfl
@[simp] theorem State.advance_pend : (s.advance).pend = s.pend := rfl
@[simp] theorem State.advance_checkstop : (s.advance).checkstop = s.checkstop := rfl
@[simp] theorem State.advance_cfg : (s.advance).cfg = s.cfg := rfl
@[simp] theorem State.advance_run : (s.advance).run = s.run := rfl

/-! ### State.setByte -/

@[simp] theorem State.setByte_gpr (a : RealAddr) (v : Byte) : (s.setByte a v).gpr = s.gpr := rfl
@[simp] theorem State.setByte_nia (a : RealAddr) (v : Byte) : (s.setByte a v).nia = s.nia := rfl
@[simp] theorem State.setByte_bookI (a : RealAddr) (v : Byte) : (s.setByte a v).bookI = s.bookI := rfl
@[simp] theorem State.setByte_msr (a : RealAddr) (v : Byte) : (s.setByte a v).msr = s.msr := rfl
@[simp] theorem State.setByte_spr (a : RealAddr) (v : Byte) : (s.setByte a v).spr = s.spr := rfl
@[simp] theorem State.setByte_slb (a : RealAddr) (v : Byte) : (s.setByte a v).slb = s.slb := rfl
@[simp] theorem State.setByte_slbLast (a : RealAddr) (v : Byte) : (s.setByte a v).slbLast = s.slbLast := rfl
@[simp] theorem State.setByte_slbGone (a : RealAddr) (v : Byte) : (s.setByte a v).slbGone = s.slbGone := rfl
@[simp] theorem State.setByte_tlb (a : RealAddr) (v : Byte) : (s.setByte a v).tlb = s.tlb := rfl
@[simp] theorem State.setByte_mem (a : RealAddr) (v : Byte) : (s.setByte a v).mem = Memory.write s.mem a.toNat v := rfl
@[simp] theorem State.setByte_time (a : RealAddr) (v : Byte) : (s.setByte a v).time = s.time := rfl
@[simp] theorem State.setByte_pm (a : RealAddr) (v : Byte) : (s.setByte a v).pm = s.pm := rfl
@[simp] theorem State.setByte_pend (a : RealAddr) (v : Byte) : (s.setByte a v).pend = s.pend := rfl
@[simp] theorem State.setByte_checkstop (a : RealAddr) (v : Byte) : (s.setByte a v).checkstop = s.checkstop := rfl
@[simp] theorem State.setByte_cfg (a : RealAddr) (v : Byte) : (s.setByte a v).cfg = s.cfg := rfl
@[simp] theorem State.setByte_run (a : RealAddr) (v : Byte) : (s.setByte a v).run = s.run := rfl

/-! ### State.writeDw -/

@[simp] theorem State.writeDw_gpr (a : RealAddr) (x : Word) : (s.writeDw a x).gpr = s.gpr := rfl
@[simp] theorem State.writeDw_nia (a : RealAddr) (x : Word) : (s.writeDw a x).nia = s.nia := rfl
@[simp] theorem State.writeDw_bookI (a : RealAddr) (x : Word) : (s.writeDw a x).bookI = s.bookI := rfl
@[simp] theorem State.writeDw_msr (a : RealAddr) (x : Word) : (s.writeDw a x).msr = s.msr := rfl
@[simp] theorem State.writeDw_spr (a : RealAddr) (x : Word) : (s.writeDw a x).spr = s.spr := rfl
@[simp] theorem State.writeDw_slb (a : RealAddr) (x : Word) : (s.writeDw a x).slb = s.slb := rfl
@[simp] theorem State.writeDw_slbLast (a : RealAddr) (x : Word) : (s.writeDw a x).slbLast = s.slbLast := rfl
@[simp] theorem State.writeDw_slbGone (a : RealAddr) (x : Word) : (s.writeDw a x).slbGone = s.slbGone := rfl
@[simp] theorem State.writeDw_tlb (a : RealAddr) (x : Word) : (s.writeDw a x).tlb = s.tlb := rfl
@[simp] theorem State.writeDw_time (a : RealAddr) (x : Word) : (s.writeDw a x).time = s.time := rfl
@[simp] theorem State.writeDw_pm (a : RealAddr) (x : Word) : (s.writeDw a x).pm = s.pm := rfl
@[simp] theorem State.writeDw_pend (a : RealAddr) (x : Word) : (s.writeDw a x).pend = s.pend := rfl
@[simp] theorem State.writeDw_checkstop (a : RealAddr) (x : Word) : (s.writeDw a x).checkstop = s.checkstop := rfl
@[simp] theorem State.writeDw_cfg (a : RealAddr) (x : Word) : (s.writeDw a x).cfg = s.cfg := rfl
@[simp] theorem State.writeDw_run (a : RealAddr) (x : Word) : (s.writeDw a x).run = s.run := rfl

/-! ### State.drawn -/

@[simp] theorem State.drawn_gpr (k : Nat) : (s.drawn k).gpr = s.gpr := rfl
@[simp] theorem State.drawn_nia (k : Nat) : (s.drawn k).nia = s.nia := rfl
@[simp] theorem State.drawn_bookI (k : Nat) : (s.drawn k).bookI = s.bookI := rfl
@[simp] theorem State.drawn_msr (k : Nat) : (s.drawn k).msr = s.msr := rfl
@[simp] theorem State.drawn_spr (k : Nat) : (s.drawn k).spr = s.spr := rfl
@[simp] theorem State.drawn_slb (k : Nat) : (s.drawn k).slb = s.slb := rfl
@[simp] theorem State.drawn_slbLast (k : Nat) : (s.drawn k).slbLast = s.slbLast := rfl
@[simp] theorem State.drawn_slbGone (k : Nat) : (s.drawn k).slbGone = s.slbGone := rfl
@[simp] theorem State.drawn_tlb (k : Nat) : (s.drawn k).tlb = s.tlb := rfl
@[simp] theorem State.drawn_mem (k : Nat) : (s.drawn k).mem = s.mem := rfl
@[simp] theorem State.drawn_time (k : Nat) : (s.drawn k).time = s.time := rfl
@[simp] theorem State.drawn_pm (k : Nat) : (s.drawn k).pm = s.pm := rfl
@[simp] theorem State.drawn_pend (k : Nat) : (s.drawn k).pend = s.pend := rfl
@[simp] theorem State.drawn_checkstop (k : Nat) : (s.drawn k).checkstop = s.checkstop := rfl
@[simp] theorem State.drawn_cfg (k : Nat) : (s.drawn k).cfg = s.cfg := rfl

/-! ### State.withOperand -/

@[simp] theorem State.withOperand_gpr (ea : Word) : (s.withOperand ea).gpr = s.gpr := rfl
@[simp] theorem State.withOperand_nia (ea : Word) : (s.withOperand ea).nia = s.nia := rfl
@[simp] theorem State.withOperand_bookI (ea : Word) : (s.withOperand ea).bookI = s.bookI := rfl
@[simp] theorem State.withOperand_msr (ea : Word) : (s.withOperand ea).msr = s.msr := rfl
@[simp] theorem State.withOperand_spr (ea : Word) : (s.withOperand ea).spr = s.spr := rfl
@[simp] theorem State.withOperand_slb (ea : Word) : (s.withOperand ea).slb = s.slb := rfl
@[simp] theorem State.withOperand_slbLast (ea : Word) : (s.withOperand ea).slbLast = s.slbLast := rfl
@[simp] theorem State.withOperand_slbGone (ea : Word) : (s.withOperand ea).slbGone = s.slbGone := rfl
@[simp] theorem State.withOperand_tlb (ea : Word) : (s.withOperand ea).tlb = s.tlb := rfl
@[simp] theorem State.withOperand_mem (ea : Word) : (s.withOperand ea).mem = s.mem := rfl
@[simp] theorem State.withOperand_time (ea : Word) : (s.withOperand ea).time = s.time := rfl
@[simp] theorem State.withOperand_pm (ea : Word) : (s.withOperand ea).pm = s.pm := rfl
@[simp] theorem State.withOperand_pend (ea : Word) : (s.withOperand ea).pend = s.pend := rfl
@[simp] theorem State.withOperand_checkstop (ea : Word) : (s.withOperand ea).checkstop = s.checkstop := rfl
@[simp] theorem State.withOperand_cfg (ea : Word) : (s.withOperand ea).cfg = s.cfg := rfl

/-! ### State.returnTo -/

@[simp] theorem State.returnTo_gpr (m addr : Word) : (s.returnTo m addr).gpr = s.gpr := rfl
@[simp] theorem State.returnTo_nia (m addr : Word) : (s.returnTo m addr).nia = ea32 m addr &&& ~~~(3#64) := rfl
@[simp] theorem State.returnTo_bookI (m addr : Word) : (s.returnTo m addr).bookI = s.bookI := rfl
@[simp] theorem State.returnTo_msr (m addr : Word) : (s.returnTo m addr).msr = m := rfl
@[simp] theorem State.returnTo_spr (m addr : Word) : (s.returnTo m addr).spr = s.spr := rfl
@[simp] theorem State.returnTo_slb (m addr : Word) : (s.returnTo m addr).slb = s.slb := rfl
@[simp] theorem State.returnTo_slbLast (m addr : Word) : (s.returnTo m addr).slbLast = s.slbLast := rfl
@[simp] theorem State.returnTo_slbGone (m addr : Word) : (s.returnTo m addr).slbGone = s.slbGone := rfl
@[simp] theorem State.returnTo_tlb (m addr : Word) : (s.returnTo m addr).tlb = s.tlb := rfl
@[simp] theorem State.returnTo_mem (m addr : Word) : (s.returnTo m addr).mem = s.mem := rfl
@[simp] theorem State.returnTo_time (m addr : Word) : (s.returnTo m addr).time = s.time := rfl
@[simp] theorem State.returnTo_pm (m addr : Word) : (s.returnTo m addr).pm = s.pm := rfl
@[simp] theorem State.returnTo_pend (m addr : Word) : (s.returnTo m addr).pend = s.pend := rfl
@[simp] theorem State.returnTo_checkstop (m addr : Word) : (s.returnTo m addr).checkstop = s.checkstop := rfl
@[simp] theorem State.returnTo_cfg (m addr : Word) : (s.returnTo m addr).cfg = s.cfg := rfl
@[simp] theorem State.returnTo_run (m addr : Word) : (s.returnTo m addr).run = s.run := rfl

/-! ### State.withMsr -/

@[simp] theorem State.withMsr_gpr (m : Word) : (s.withMsr m).gpr = s.gpr := rfl
@[simp] theorem State.withMsr_nia (m : Word) : (s.withMsr m).nia = s.cia + 4 := rfl
@[simp] theorem State.withMsr_bookI (m : Word) : (s.withMsr m).bookI = s.bookI := rfl
@[simp] theorem State.withMsr_msr (m : Word) : (s.withMsr m).msr = m := rfl
@[simp] theorem State.withMsr_spr (m : Word) : (s.withMsr m).spr = s.spr := rfl
@[simp] theorem State.withMsr_slb (m : Word) : (s.withMsr m).slb = s.slb := rfl
@[simp] theorem State.withMsr_slbLast (m : Word) : (s.withMsr m).slbLast = s.slbLast := rfl
@[simp] theorem State.withMsr_slbGone (m : Word) : (s.withMsr m).slbGone = s.slbGone := rfl
@[simp] theorem State.withMsr_tlb (m : Word) : (s.withMsr m).tlb = s.tlb := rfl
@[simp] theorem State.withMsr_mem (m : Word) : (s.withMsr m).mem = s.mem := rfl
@[simp] theorem State.withMsr_time (m : Word) : (s.withMsr m).time = s.time := rfl
@[simp] theorem State.withMsr_pm (m : Word) : (s.withMsr m).pm = s.pm := rfl
@[simp] theorem State.withMsr_pend (m : Word) : (s.withMsr m).pend = s.pend := rfl
@[simp] theorem State.withMsr_checkstop (m : Word) : (s.withMsr m).checkstop = s.checkstop := rfl
@[simp] theorem State.withMsr_cfg (m : Word) : (s.withMsr m).cfg = s.cfg := rfl
@[simp] theorem State.withMsr_run (m : Word) : (s.withMsr m).run = s.run := rfl

/-! ### State.setSlbEntry -/

@[simp] theorem State.setSlbEntry_gpr (i : Nat) (e : SlbEntry) : (s.setSlbEntry i e).gpr = s.gpr := rfl
@[simp] theorem State.setSlbEntry_nia (i : Nat) (e : SlbEntry) : (s.setSlbEntry i e).nia = s.nia := rfl
@[simp] theorem State.setSlbEntry_bookI (i : Nat) (e : SlbEntry) : (s.setSlbEntry i e).bookI = s.bookI := rfl
@[simp] theorem State.setSlbEntry_msr (i : Nat) (e : SlbEntry) : (s.setSlbEntry i e).msr = s.msr := rfl
@[simp] theorem State.setSlbEntry_spr (i : Nat) (e : SlbEntry) : (s.setSlbEntry i e).spr = s.spr := rfl
@[simp] theorem State.setSlbEntry_slb (i : Nat) (e : SlbEntry) : (s.setSlbEntry i e).slb = s.slb.set i e := rfl
@[simp] theorem State.setSlbEntry_slbGone (i : Nat) (e : SlbEntry) : (s.setSlbEntry i e).slbGone = displace s.slbGone (s.slbEntry i) e := rfl
@[simp] theorem State.setSlbEntry_tlb (i : Nat) (e : SlbEntry) : (s.setSlbEntry i e).tlb = s.tlb := rfl
@[simp] theorem State.setSlbEntry_mem (i : Nat) (e : SlbEntry) : (s.setSlbEntry i e).mem = s.mem := rfl
@[simp] theorem State.setSlbEntry_time (i : Nat) (e : SlbEntry) : (s.setSlbEntry i e).time = s.time := rfl
@[simp] theorem State.setSlbEntry_pm (i : Nat) (e : SlbEntry) : (s.setSlbEntry i e).pm = s.pm := rfl
@[simp] theorem State.setSlbEntry_pend (i : Nat) (e : SlbEntry) : (s.setSlbEntry i e).pend = s.pend := rfl
@[simp] theorem State.setSlbEntry_checkstop (i : Nat) (e : SlbEntry) : (s.setSlbEntry i e).checkstop = s.checkstop := rfl
@[simp] theorem State.setSlbEntry_cfg (i : Nat) (e : SlbEntry) : (s.setSlbEntry i e).cfg = s.cfg := rfl
@[simp] theorem State.setSlbEntry_run (i : Nat) (e : SlbEntry) : (s.setSlbEntry i e).run = s.run := rfl

/-! ### State.invalidateEsid -/

@[simp] theorem State.invalidateEsid_gpr (esid : BitVec 36) : (s.invalidateEsid esid).gpr = s.gpr := rfl
@[simp] theorem State.invalidateEsid_nia (esid : BitVec 36) : (s.invalidateEsid esid).nia = s.nia := rfl
@[simp] theorem State.invalidateEsid_bookI (esid : BitVec 36) : (s.invalidateEsid esid).bookI = s.bookI := rfl
@[simp] theorem State.invalidateEsid_msr (esid : BitVec 36) : (s.invalidateEsid esid).msr = s.msr := rfl
@[simp] theorem State.invalidateEsid_spr (esid : BitVec 36) : (s.invalidateEsid esid).spr = s.spr := rfl
@[simp] theorem State.invalidateEsid_tlb (esid : BitVec 36) : (s.invalidateEsid esid).tlb = s.tlb := rfl
@[simp] theorem State.invalidateEsid_mem (esid : BitVec 36) : (s.invalidateEsid esid).mem = s.mem := rfl
@[simp] theorem State.invalidateEsid_time (esid : BitVec 36) : (s.invalidateEsid esid).time = s.time := rfl
@[simp] theorem State.invalidateEsid_pm (esid : BitVec 36) : (s.invalidateEsid esid).pm = s.pm := rfl
@[simp] theorem State.invalidateEsid_pend (esid : BitVec 36) : (s.invalidateEsid esid).pend = s.pend := rfl
@[simp] theorem State.invalidateEsid_checkstop (esid : BitVec 36) : (s.invalidateEsid esid).checkstop = s.checkstop := rfl
@[simp] theorem State.invalidateEsid_cfg (esid : BitVec 36) : (s.invalidateEsid esid).cfg = s.cfg := rfl

/-! ### State.invalidateSlb -/

@[simp] theorem State.invalidateSlb_gpr : (s.invalidateSlb).gpr = s.gpr := rfl
@[simp] theorem State.invalidateSlb_nia : (s.invalidateSlb).nia = s.nia := rfl
@[simp] theorem State.invalidateSlb_bookI : (s.invalidateSlb).bookI = s.bookI := rfl
@[simp] theorem State.invalidateSlb_msr : (s.invalidateSlb).msr = s.msr := rfl
@[simp] theorem State.invalidateSlb_spr : (s.invalidateSlb).spr = s.spr := rfl
@[simp] theorem State.invalidateSlb_slbGone : (s.invalidateSlb).slbGone = [] := rfl
@[simp] theorem State.invalidateSlb_tlb : (s.invalidateSlb).tlb = s.tlb := rfl
@[simp] theorem State.invalidateSlb_mem : (s.invalidateSlb).mem = s.mem := rfl
@[simp] theorem State.invalidateSlb_time : (s.invalidateSlb).time = s.time := rfl
@[simp] theorem State.invalidateSlb_pm : (s.invalidateSlb).pm = s.pm := rfl
@[simp] theorem State.invalidateSlb_pend : (s.invalidateSlb).pend = s.pend := rfl
@[simp] theorem State.invalidateSlb_checkstop : (s.invalidateSlb).checkstop = s.checkstop := rfl
@[simp] theorem State.invalidateSlb_cfg : (s.invalidateSlb).cfg = s.cfg := rfl

/-! ### State.invalidateTlb -/

@[simp] theorem State.invalidateTlb_gpr (rb : Word) (l : Bool) : (s.invalidateTlb rb l).gpr = s.gpr := rfl
@[simp] theorem State.invalidateTlb_nia (rb : Word) (l : Bool) : (s.invalidateTlb rb l).nia = s.nia := rfl
@[simp] theorem State.invalidateTlb_bookI (rb : Word) (l : Bool) : (s.invalidateTlb rb l).bookI = s.bookI := rfl
@[simp] theorem State.invalidateTlb_msr (rb : Word) (l : Bool) : (s.invalidateTlb rb l).msr = s.msr := rfl
@[simp] theorem State.invalidateTlb_spr (rb : Word) (l : Bool) : (s.invalidateTlb rb l).spr = s.spr := rfl
@[simp] theorem State.invalidateTlb_slb (rb : Word) (l : Bool) : (s.invalidateTlb rb l).slb = s.slb := rfl
@[simp] theorem State.invalidateTlb_slbLast (rb : Word) (l : Bool) : (s.invalidateTlb rb l).slbLast = s.slbLast := rfl
@[simp] theorem State.invalidateTlb_slbGone (rb : Word) (l : Bool) : (s.invalidateTlb rb l).slbGone = s.slbGone := rfl
@[simp] theorem State.invalidateTlb_tlb (rb : Word) (l : Bool) : (s.invalidateTlb rb l).tlb = s.tlb.filter fun e => !e.named s.cfg rb l := rfl
@[simp] theorem State.invalidateTlb_mem (rb : Word) (l : Bool) : (s.invalidateTlb rb l).mem = s.mem := rfl
@[simp] theorem State.invalidateTlb_time (rb : Word) (l : Bool) : (s.invalidateTlb rb l).time = s.time := rfl
@[simp] theorem State.invalidateTlb_pm (rb : Word) (l : Bool) : (s.invalidateTlb rb l).pm = s.pm := rfl
@[simp] theorem State.invalidateTlb_pend (rb : Word) (l : Bool) : (s.invalidateTlb rb l).pend = s.pend := rfl
@[simp] theorem State.invalidateTlb_checkstop (rb : Word) (l : Bool) : (s.invalidateTlb rb l).checkstop = s.checkstop := rfl
@[simp] theorem State.invalidateTlb_cfg (rb : Word) (l : Bool) : (s.invalidateTlb rb l).cfg = s.cfg := rfl
@[simp] theorem State.invalidateTlb_run (rb : Word) (l : Bool) : (s.invalidateTlb rb l).run = s.run := rfl

/-! ### State.enterCheckstop -/

@[simp] theorem State.enterCheckstop_gpr : (s.enterCheckstop).gpr = s.gpr := rfl
@[simp] theorem State.enterCheckstop_nia : (s.enterCheckstop).nia = s.nia := rfl
@[simp] theorem State.enterCheckstop_bookI : (s.enterCheckstop).bookI = s.bookI := rfl
@[simp] theorem State.enterCheckstop_msr : (s.enterCheckstop).msr = s.msr := rfl
@[simp] theorem State.enterCheckstop_spr : (s.enterCheckstop).spr = s.spr := rfl
@[simp] theorem State.enterCheckstop_slb : (s.enterCheckstop).slb = s.slb := rfl
@[simp] theorem State.enterCheckstop_slbLast : (s.enterCheckstop).slbLast = s.slbLast := rfl
@[simp] theorem State.enterCheckstop_slbGone : (s.enterCheckstop).slbGone = s.slbGone := rfl
@[simp] theorem State.enterCheckstop_tlb : (s.enterCheckstop).tlb = s.tlb := rfl
@[simp] theorem State.enterCheckstop_mem : (s.enterCheckstop).mem = s.mem := rfl
@[simp] theorem State.enterCheckstop_time : (s.enterCheckstop).time = s.time := rfl
@[simp] theorem State.enterCheckstop_pm : (s.enterCheckstop).pm = s.pm := rfl
@[simp] theorem State.enterCheckstop_pend : (s.enterCheckstop).pend = s.pend := rfl
@[simp] theorem State.enterCheckstop_checkstop : (s.enterCheckstop).checkstop = true := rfl
@[simp] theorem State.enterCheckstop_cfg : (s.enterCheckstop).cfg = s.cfg := rfl

/-! ### State.takeInterrupt -/

@[simp] theorem State.takeInterrupt_gpr (k : IntKind) (addr info : Word) : (s.takeInterrupt k addr info).gpr = s.gpr := rfl
@[simp] theorem State.takeInterrupt_nia (k : IntKind) (addr info : Word) : (s.takeInterrupt k addr info).nia = vector k := rfl
@[simp] theorem State.takeInterrupt_bookI (k : IntKind) (addr info : Word) : (s.takeInterrupt k addr info).bookI = s.bookI := rfl
@[simp] theorem State.takeInterrupt_msr (k : IntKind) (addr info : Word) : (s.takeInterrupt k addr info).msr = newMsr s.cfg s.spr.lpcr k s.msr := rfl
@[simp] theorem State.takeInterrupt_slb (k : IntKind) (addr info : Word) : (s.takeInterrupt k addr info).slb = s.slb := rfl
@[simp] theorem State.takeInterrupt_slbLast (k : IntKind) (addr info : Word) : (s.takeInterrupt k addr info).slbLast = s.slbLast := rfl
@[simp] theorem State.takeInterrupt_slbGone (k : IntKind) (addr info : Word) : (s.takeInterrupt k addr info).slbGone = s.slbGone := rfl
@[simp] theorem State.takeInterrupt_tlb (k : IntKind) (addr info : Word) : (s.takeInterrupt k addr info).tlb = s.tlb := rfl
@[simp] theorem State.takeInterrupt_mem (k : IntKind) (addr info : Word) : (s.takeInterrupt k addr info).mem = s.mem := rfl
@[simp] theorem State.takeInterrupt_time (k : IntKind) (addr info : Word) : (s.takeInterrupt k addr info).time = s.time := rfl
@[simp] theorem State.takeInterrupt_pm (k : IntKind) (addr info : Word) : (s.takeInterrupt k addr info).pm = s.pm := rfl
@[simp] theorem State.takeInterrupt_pend (k : IntKind) (addr info : Word) : (s.takeInterrupt k addr info).pend = s.pend := rfl
@[simp] theorem State.takeInterrupt_checkstop (k : IntKind) (addr info : Word) : (s.takeInterrupt k addr info).checkstop = s.checkstop := rfl
@[simp] theorem State.takeInterrupt_cfg (k : IntKind) (addr info : Word) : (s.takeInterrupt k addr info).cfg = s.cfg := rfl

/-! ### State.program -/

@[simp] theorem State.program_gpr (k : ProgramKind) : (s.program k).gpr = s.gpr := rfl
@[simp] theorem State.program_nia (k : ProgramKind) : (s.program k).nia = 0x700 := rfl
@[simp] theorem State.program_bookI (k : ProgramKind) : (s.program k).bookI = s.bookI := rfl
@[simp] theorem State.program_msr (k : ProgramKind) : (s.program k).msr = newMsr s.cfg s.spr.lpcr .program s.msr := rfl
@[simp] theorem State.program_slb (k : ProgramKind) : (s.program k).slb = s.slb := rfl
@[simp] theorem State.program_slbLast (k : ProgramKind) : (s.program k).slbLast = s.slbLast := rfl
@[simp] theorem State.program_slbGone (k : ProgramKind) : (s.program k).slbGone = s.slbGone := rfl
@[simp] theorem State.program_tlb (k : ProgramKind) : (s.program k).tlb = s.tlb := rfl
@[simp] theorem State.program_mem (k : ProgramKind) : (s.program k).mem = s.mem := rfl
@[simp] theorem State.program_time (k : ProgramKind) : (s.program k).time = s.time := rfl
@[simp] theorem State.program_pm (k : ProgramKind) : (s.program k).pm = s.pm := rfl
@[simp] theorem State.program_pend (k : ProgramKind) : (s.program k).pend = s.pend := rfl
@[simp] theorem State.program_checkstop (k : ProgramKind) : (s.program k).checkstop = s.checkstop := rfl
@[simp] theorem State.program_cfg (k : ProgramKind) : (s.program k).cfg = s.cfg := rfl

/-! ### State.dataStorage -/

@[simp] theorem State.dataStorage_gpr (dsisr : Half) (dar : Word) : (s.dataStorage dsisr dar).gpr = s.gpr := rfl
@[simp] theorem State.dataStorage_nia (dsisr : Half) (dar : Word) : (s.dataStorage dsisr dar).nia = 0x300 := rfl
@[simp] theorem State.dataStorage_bookI (dsisr : Half) (dar : Word) : (s.dataStorage dsisr dar).bookI = s.bookI := rfl
@[simp] theorem State.dataStorage_msr (dsisr : Half) (dar : Word) : (s.dataStorage dsisr dar).msr = newMsr s.cfg s.spr.lpcr .dataStorage s.msr := rfl
@[simp] theorem State.dataStorage_slb (dsisr : Half) (dar : Word) : (s.dataStorage dsisr dar).slb = s.slb := rfl
@[simp] theorem State.dataStorage_slbLast (dsisr : Half) (dar : Word) : (s.dataStorage dsisr dar).slbLast = s.slbLast := rfl
@[simp] theorem State.dataStorage_slbGone (dsisr : Half) (dar : Word) : (s.dataStorage dsisr dar).slbGone = s.slbGone := rfl
@[simp] theorem State.dataStorage_tlb (dsisr : Half) (dar : Word) : (s.dataStorage dsisr dar).tlb = s.tlb := rfl
@[simp] theorem State.dataStorage_mem (dsisr : Half) (dar : Word) : (s.dataStorage dsisr dar).mem = s.mem := rfl
@[simp] theorem State.dataStorage_time (dsisr : Half) (dar : Word) : (s.dataStorage dsisr dar).time = s.time := rfl
@[simp] theorem State.dataStorage_pm (dsisr : Half) (dar : Word) : (s.dataStorage dsisr dar).pm = s.pm := rfl
@[simp] theorem State.dataStorage_pend (dsisr : Half) (dar : Word) : (s.dataStorage dsisr dar).pend = s.pend := rfl
@[simp] theorem State.dataStorage_checkstop (dsisr : Half) (dar : Word) : (s.dataStorage dsisr dar).checkstop = s.checkstop := rfl
@[simp] theorem State.dataStorage_cfg (dsisr : Half) (dar : Word) : (s.dataStorage dsisr dar).cfg = s.cfg := rfl

/-! ### State.dataSegment -/

@[simp] theorem State.dataSegment_gpr (dar : Word) : (s.dataSegment dar).gpr = s.gpr := rfl
@[simp] theorem State.dataSegment_nia (dar : Word) : (s.dataSegment dar).nia = 0x380 := rfl
@[simp] theorem State.dataSegment_bookI (dar : Word) : (s.dataSegment dar).bookI = s.bookI := rfl
@[simp] theorem State.dataSegment_msr (dar : Word) : (s.dataSegment dar).msr = newMsr s.cfg s.spr.lpcr .dataSegment s.msr := rfl
@[simp] theorem State.dataSegment_slb (dar : Word) : (s.dataSegment dar).slb = s.slb := rfl
@[simp] theorem State.dataSegment_slbLast (dar : Word) : (s.dataSegment dar).slbLast = s.slbLast := rfl
@[simp] theorem State.dataSegment_slbGone (dar : Word) : (s.dataSegment dar).slbGone = s.slbGone := rfl
@[simp] theorem State.dataSegment_tlb (dar : Word) : (s.dataSegment dar).tlb = s.tlb := rfl
@[simp] theorem State.dataSegment_mem (dar : Word) : (s.dataSegment dar).mem = s.mem := rfl
@[simp] theorem State.dataSegment_time (dar : Word) : (s.dataSegment dar).time = s.time := rfl
@[simp] theorem State.dataSegment_pm (dar : Word) : (s.dataSegment dar).pm = s.pm := rfl
@[simp] theorem State.dataSegment_pend (dar : Word) : (s.dataSegment dar).pend = s.pend := rfl
@[simp] theorem State.dataSegment_checkstop (dar : Word) : (s.dataSegment dar).checkstop = s.checkstop := rfl
@[simp] theorem State.dataSegment_cfg (dar : Word) : (s.dataSegment dar).cfg = s.cfg := rfl

/-! ### State.instStorage -/

@[simp] theorem State.instStorage_gpr (info : Word) : (s.instStorage info).gpr = s.gpr := rfl
@[simp] theorem State.instStorage_nia (info : Word) : (s.instStorage info).nia = 0x400 := rfl
@[simp] theorem State.instStorage_bookI (info : Word) : (s.instStorage info).bookI = s.bookI := rfl
@[simp] theorem State.instStorage_msr (info : Word) : (s.instStorage info).msr = newMsr s.cfg s.spr.lpcr .instStorage s.msr := rfl
@[simp] theorem State.instStorage_slb (info : Word) : (s.instStorage info).slb = s.slb := rfl
@[simp] theorem State.instStorage_slbLast (info : Word) : (s.instStorage info).slbLast = s.slbLast := rfl
@[simp] theorem State.instStorage_slbGone (info : Word) : (s.instStorage info).slbGone = s.slbGone := rfl
@[simp] theorem State.instStorage_tlb (info : Word) : (s.instStorage info).tlb = s.tlb := rfl
@[simp] theorem State.instStorage_mem (info : Word) : (s.instStorage info).mem = s.mem := rfl
@[simp] theorem State.instStorage_time (info : Word) : (s.instStorage info).time = s.time := rfl
@[simp] theorem State.instStorage_pm (info : Word) : (s.instStorage info).pm = s.pm := rfl
@[simp] theorem State.instStorage_pend (info : Word) : (s.instStorage info).pend = s.pend := rfl
@[simp] theorem State.instStorage_checkstop (info : Word) : (s.instStorage info).checkstop = s.checkstop := rfl
@[simp] theorem State.instStorage_cfg (info : Word) : (s.instStorage info).cfg = s.cfg := rfl

/-! ### State.instSegment -/

@[simp] theorem State.instSegment_gpr : (s.instSegment).gpr = s.gpr := rfl
@[simp] theorem State.instSegment_nia : (s.instSegment).nia = 0x480 := rfl
@[simp] theorem State.instSegment_bookI : (s.instSegment).bookI = s.bookI := rfl
@[simp] theorem State.instSegment_msr : (s.instSegment).msr = newMsr s.cfg s.spr.lpcr .instSegment s.msr := rfl
@[simp] theorem State.instSegment_slb : (s.instSegment).slb = s.slb := rfl
@[simp] theorem State.instSegment_slbLast : (s.instSegment).slbLast = s.slbLast := rfl
@[simp] theorem State.instSegment_slbGone : (s.instSegment).slbGone = s.slbGone := rfl
@[simp] theorem State.instSegment_tlb : (s.instSegment).tlb = s.tlb := rfl
@[simp] theorem State.instSegment_mem : (s.instSegment).mem = s.mem := rfl
@[simp] theorem State.instSegment_time : (s.instSegment).time = s.time := rfl
@[simp] theorem State.instSegment_pm : (s.instSegment).pm = s.pm := rfl
@[simp] theorem State.instSegment_pend : (s.instSegment).pend = s.pend := rfl
@[simp] theorem State.instSegment_checkstop : (s.instSegment).checkstop = s.checkstop := rfl
@[simp] theorem State.instSegment_cfg : (s.instSegment).cfg = s.cfg := rfl

/-! ### State.alignment -/

@[simp] theorem State.alignment_gpr (dsisr : Half) (dar : Word) : (s.alignment dsisr dar).gpr = s.gpr := rfl
@[simp] theorem State.alignment_nia (dsisr : Half) (dar : Word) : (s.alignment dsisr dar).nia = 0x600 := rfl
@[simp] theorem State.alignment_bookI (dsisr : Half) (dar : Word) : (s.alignment dsisr dar).bookI = s.bookI := rfl
@[simp] theorem State.alignment_msr (dsisr : Half) (dar : Word) : (s.alignment dsisr dar).msr = newMsr s.cfg s.spr.lpcr .alignment s.msr := rfl
@[simp] theorem State.alignment_slb (dsisr : Half) (dar : Word) : (s.alignment dsisr dar).slb = s.slb := rfl
@[simp] theorem State.alignment_slbLast (dsisr : Half) (dar : Word) : (s.alignment dsisr dar).slbLast = s.slbLast := rfl
@[simp] theorem State.alignment_slbGone (dsisr : Half) (dar : Word) : (s.alignment dsisr dar).slbGone = s.slbGone := rfl
@[simp] theorem State.alignment_tlb (dsisr : Half) (dar : Word) : (s.alignment dsisr dar).tlb = s.tlb := rfl
@[simp] theorem State.alignment_mem (dsisr : Half) (dar : Word) : (s.alignment dsisr dar).mem = s.mem := rfl
@[simp] theorem State.alignment_time (dsisr : Half) (dar : Word) : (s.alignment dsisr dar).time = s.time := rfl
@[simp] theorem State.alignment_pm (dsisr : Half) (dar : Word) : (s.alignment dsisr dar).pm = s.pm := rfl
@[simp] theorem State.alignment_pend (dsisr : Half) (dar : Word) : (s.alignment dsisr dar).pend = s.pend := rfl
@[simp] theorem State.alignment_checkstop (dsisr : Half) (dar : Word) : (s.alignment dsisr dar).checkstop = s.checkstop := rfl
@[simp] theorem State.alignment_cfg (dsisr : Half) (dar : Word) : (s.alignment dsisr dar).cfg = s.cfg := rfl

/-! ### State.keep -/

@[simp] theorem State.keep_gpr (e : TlbEntry) (cached : Bool) : (s.keep e cached).gpr = s.gpr := rfl
@[simp] theorem State.keep_nia (e : TlbEntry) (cached : Bool) : (s.keep e cached).nia = s.nia := rfl
@[simp] theorem State.keep_bookI (e : TlbEntry) (cached : Bool) : (s.keep e cached).bookI = s.bookI := rfl
@[simp] theorem State.keep_msr (e : TlbEntry) (cached : Bool) : (s.keep e cached).msr = s.msr := rfl
@[simp] theorem State.keep_spr (e : TlbEntry) (cached : Bool) : (s.keep e cached).spr = s.spr := rfl
@[simp] theorem State.keep_slb (e : TlbEntry) (cached : Bool) : (s.keep e cached).slb = s.slb := rfl
@[simp] theorem State.keep_slbLast (e : TlbEntry) (cached : Bool) : (s.keep e cached).slbLast = s.slbLast := rfl
@[simp] theorem State.keep_slbGone (e : TlbEntry) (cached : Bool) : (s.keep e cached).slbGone = s.slbGone := rfl
@[simp] theorem State.keep_mem (e : TlbEntry) (cached : Bool) : (s.keep e cached).mem = s.mem := rfl
@[simp] theorem State.keep_time (e : TlbEntry) (cached : Bool) : (s.keep e cached).time = s.time := rfl
@[simp] theorem State.keep_pm (e : TlbEntry) (cached : Bool) : (s.keep e cached).pm = s.pm := rfl
@[simp] theorem State.keep_pend (e : TlbEntry) (cached : Bool) : (s.keep e cached).pend = s.pend := rfl
@[simp] theorem State.keep_checkstop (e : TlbEntry) (cached : Bool) : (s.keep e cached).checkstop = s.checkstop := rfl
@[simp] theorem State.keep_cfg (e : TlbEntry) (cached : Bool) : (s.keep e cached).cfg = s.cfg := rfl
@[simp] theorem State.keep_run (e : TlbEntry) (cached : Bool) : (s.keep e cached).run = s.run := rfl

/-! ### State.record -/

@[simp] theorem State.record_gpr (e : TlbEntry) (cached store : Bool) : (s.record e cached store).gpr = s.gpr := rfl
@[simp] theorem State.record_nia (e : TlbEntry) (cached store : Bool) : (s.record e cached store).nia = s.nia := rfl
@[simp] theorem State.record_bookI (e : TlbEntry) (cached store : Bool) : (s.record e cached store).bookI = s.bookI := rfl
@[simp] theorem State.record_msr (e : TlbEntry) (cached store : Bool) : (s.record e cached store).msr = s.msr := rfl
@[simp] theorem State.record_spr (e : TlbEntry) (cached store : Bool) : (s.record e cached store).spr = s.spr := rfl
@[simp] theorem State.record_slb (e : TlbEntry) (cached store : Bool) : (s.record e cached store).slb = s.slb := rfl
@[simp] theorem State.record_slbLast (e : TlbEntry) (cached store : Bool) : (s.record e cached store).slbLast = s.slbLast := rfl
@[simp] theorem State.record_slbGone (e : TlbEntry) (cached store : Bool) : (s.record e cached store).slbGone = s.slbGone := rfl
@[simp] theorem State.record_tlb (e : TlbEntry) (cached store : Bool) : (s.record e cached store).tlb = s.recordedTlb e cached store := rfl
@[simp] theorem State.record_mem (e : TlbEntry) (cached store : Bool) : (s.record e cached store).mem = recordedMem s.mem e store := rfl
@[simp] theorem State.record_time (e : TlbEntry) (cached store : Bool) : (s.record e cached store).time = s.time := rfl
@[simp] theorem State.record_pm (e : TlbEntry) (cached store : Bool) : (s.record e cached store).pm = s.pm := rfl
@[simp] theorem State.record_pend (e : TlbEntry) (cached store : Bool) : (s.record e cached store).pend = s.pend := rfl
@[simp] theorem State.record_checkstop (e : TlbEntry) (cached store : Bool) : (s.record e cached store).checkstop = s.checkstop := rfl
@[simp] theorem State.record_cfg (e : TlbEntry) (cached store : Bool) : (s.record e cached store).cfg = s.cfg := rfl
@[simp] theorem State.record_run (e : TlbEntry) (cached store : Bool) : (s.record e cached store).run = s.run := rfl

/-! ### State.use -/

@[simp] theorem State.use_gpr (u : List PageUse) : (s.use u).gpr = s.gpr := rfl
@[simp] theorem State.use_nia (u : List PageUse) : (s.use u).nia = s.nia := rfl
@[simp] theorem State.use_bookI (u : List PageUse) : (s.use u).bookI = s.bookI := rfl
@[simp] theorem State.use_msr (u : List PageUse) : (s.use u).msr = s.msr := rfl
@[simp] theorem State.use_spr (u : List PageUse) : (s.use u).spr = s.spr := rfl
@[simp] theorem State.use_slb (u : List PageUse) : (s.use u).slb = s.slb := rfl
@[simp] theorem State.use_slbLast (u : List PageUse) : (s.use u).slbLast = s.slbLast := rfl
@[simp] theorem State.use_slbGone (u : List PageUse) : (s.use u).slbGone = s.slbGone := rfl
@[simp] theorem State.use_tlb (u : List PageUse) : (s.use u).tlb = s.tlb := rfl
@[simp] theorem State.use_mem (u : List PageUse) : (s.use u).mem = s.mem := rfl
@[simp] theorem State.use_time (u : List PageUse) : (s.use u).time = s.time := rfl
@[simp] theorem State.use_pm (u : List PageUse) : (s.use u).pm = s.pm := rfl
@[simp] theorem State.use_pend (u : List PageUse) : (s.use u).pend = s.pend := rfl
@[simp] theorem State.use_checkstop (u : List PageUse) : (s.use u).checkstop = s.checkstop := rfl
@[simp] theorem State.use_cfg (u : List PageUse) : (s.use u).cfg = s.cfg := rfl

/-! ### State.loseReservation -/

@[simp] theorem State.loseReservation_gpr (a : RealAddr) : (s.loseReservation a).gpr = s.gpr := rfl
@[simp] theorem State.loseReservation_nia (a : RealAddr) : (s.loseReservation a).nia = s.nia := rfl
@[simp] theorem State.loseReservation_msr (a : RealAddr) : (s.loseReservation a).msr = s.msr := rfl
@[simp] theorem State.loseReservation_spr (a : RealAddr) : (s.loseReservation a).spr = s.spr := rfl
@[simp] theorem State.loseReservation_slb (a : RealAddr) : (s.loseReservation a).slb = s.slb := rfl
@[simp] theorem State.loseReservation_slbLast (a : RealAddr) : (s.loseReservation a).slbLast = s.slbLast := rfl
@[simp] theorem State.loseReservation_slbGone (a : RealAddr) : (s.loseReservation a).slbGone = s.slbGone := rfl
@[simp] theorem State.loseReservation_tlb (a : RealAddr) : (s.loseReservation a).tlb = s.tlb := rfl
@[simp] theorem State.loseReservation_mem (a : RealAddr) : (s.loseReservation a).mem = s.mem := rfl
@[simp] theorem State.loseReservation_time (a : RealAddr) : (s.loseReservation a).time = s.time := rfl
@[simp] theorem State.loseReservation_pm (a : RealAddr) : (s.loseReservation a).pm = s.pm := rfl
@[simp] theorem State.loseReservation_pend (a : RealAddr) : (s.loseReservation a).pend = s.pend := rfl
@[simp] theorem State.loseReservation_checkstop (a : RealAddr) : (s.loseReservation a).checkstop = s.checkstop := rfl
@[simp] theorem State.loseReservation_cfg (a : RealAddr) : (s.loseReservation a).cfg = s.cfg := rfl
@[simp] theorem State.loseReservation_run (a : RealAddr) : (s.loseReservation a).run = s.run := rfl

/-! ### State.applied -/

@[simp] theorem State.applied_gpr (e : BaseEffect) : (s.applied e).gpr = e.gpr := rfl
@[simp] theorem State.applied_nia (e : BaseEffect) : (s.applied e).nia = s.cia + 4 := rfl
@[simp] theorem State.applied_msr (e : BaseEffect) : (s.applied e).msr = s.msr := rfl
@[simp] theorem State.applied_spr (e : BaseEffect) : (s.applied e).spr = s.spr := rfl
@[simp] theorem State.applied_slb (e : BaseEffect) : (s.applied e).slb = s.slb := rfl
@[simp] theorem State.applied_slbLast (e : BaseEffect) : (s.applied e).slbLast = s.slbLast := rfl
@[simp] theorem State.applied_slbGone (e : BaseEffect) : (s.applied e).slbGone = s.slbGone := rfl
@[simp] theorem State.applied_tlb (e : BaseEffect) : (s.applied e).tlb = s.tlb := rfl
@[simp] theorem State.applied_mem (e : BaseEffect) : (s.applied e).mem = s.mem := rfl
@[simp] theorem State.applied_time (e : BaseEffect) : (s.applied e).time = s.time := rfl
@[simp] theorem State.applied_pm (e : BaseEffect) : (s.applied e).pm = s.pm := rfl
@[simp] theorem State.applied_pend (e : BaseEffect) : (s.applied e).pend = s.pend := rfl
@[simp] theorem State.applied_checkstop (e : BaseEffect) : (s.applied e).checkstop = s.checkstop := rfl
@[simp] theorem State.applied_cfg (e : BaseEffect) : (s.applied e).cfg = s.cfg := rfl
@[simp] theorem State.applied_run (e : BaseEffect) : (s.applied e).run = s.run := rfl

/-! ### State.alert -/

@[simp] theorem State.alert_gpr (p : Sample) : (s.alert p).gpr = s.gpr := rfl
@[simp] theorem State.alert_nia (p : Sample) : (s.alert p).nia = s.nia := rfl
@[simp] theorem State.alert_bookI (p : Sample) : (s.alert p).bookI = s.bookI := rfl
@[simp] theorem State.alert_msr (p : Sample) : (s.alert p).msr = s.msr := rfl
@[simp] theorem State.alert_spr (p : Sample) : (s.alert p).spr = s.spr := rfl
@[simp] theorem State.alert_slb (p : Sample) : (s.alert p).slb = s.slb := rfl
@[simp] theorem State.alert_slbLast (p : Sample) : (s.alert p).slbLast = s.slbLast := rfl
@[simp] theorem State.alert_slbGone (p : Sample) : (s.alert p).slbGone = s.slbGone := rfl
@[simp] theorem State.alert_tlb (p : Sample) : (s.alert p).tlb = s.tlb := rfl
@[simp] theorem State.alert_mem (p : Sample) : (s.alert p).mem = s.mem := rfl
@[simp] theorem State.alert_time (p : Sample) : (s.alert p).time = s.time := rfl
@[simp] theorem State.alert_pend (p : Sample) : (s.alert p).pend = s.pend := rfl
@[simp] theorem State.alert_checkstop (p : Sample) : (s.alert p).checkstop = s.checkstop := rfl
@[simp] theorem State.alert_cfg (p : Sample) : (s.alert p).cfg = s.cfg := rfl

/-! ### State.takePending -/

@[simp] theorem State.takePending_gpr (k : IntKind) : (s.takePending k).gpr = s.gpr := rfl
@[simp] theorem State.takePending_nia (k : IntKind) : (s.takePending k).nia = vector k := rfl
@[simp] theorem State.takePending_bookI (k : IntKind) : (s.takePending k).bookI = s.bookI := rfl
@[simp] theorem State.takePending_msr (k : IntKind) : (s.takePending k).msr = newMsr s.cfg s.spr.lpcr k s.msr := rfl
@[simp] theorem State.takePending_slb (k : IntKind) : (s.takePending k).slb = s.slb := rfl
@[simp] theorem State.takePending_slbLast (k : IntKind) : (s.takePending k).slbLast = s.slbLast := rfl
@[simp] theorem State.takePending_slbGone (k : IntKind) : (s.takePending k).slbGone = s.slbGone := rfl
@[simp] theorem State.takePending_tlb (k : IntKind) : (s.takePending k).tlb = s.tlb := rfl
@[simp] theorem State.takePending_mem (k : IntKind) : (s.takePending k).mem = s.mem := rfl
@[simp] theorem State.takePending_time (k : IntKind) : (s.takePending k).time = s.time := rfl
@[simp] theorem State.takePending_pm (k : IntKind) : (s.takePending k).pm = s.pm := rfl
@[simp] theorem State.takePending_pend (k : IntKind) : (s.takePending k).pend = s.pend := rfl
@[simp] theorem State.takePending_checkstop (k : IntKind) : (s.takePending k).checkstop = s.checkstop := rfl
@[simp] theorem State.takePending_cfg (k : IntKind) : (s.takePending k).cfg = s.cfg := rfl

/-! ### State.complete -/

@[simp] theorem State.complete_gpr (old : State) : (s.complete old).gpr = s.gpr := rfl
@[simp] theorem State.complete_nia (old : State) : (s.complete old).nia = s.nia := rfl
@[simp] theorem State.complete_bookI (old : State) : (s.complete old).bookI = s.bookI := rfl
@[simp] theorem State.complete_msr (old : State) : (s.complete old).msr = s.msr := rfl
@[simp] theorem State.complete_spr (old : State) : (s.complete old).spr = s.spr := rfl
@[simp] theorem State.complete_slb (old : State) : (s.complete old).slb = s.slb := rfl
@[simp] theorem State.complete_slbLast (old : State) : (s.complete old).slbLast = s.slbLast := rfl
@[simp] theorem State.complete_slbGone (old : State) : (s.complete old).slbGone = s.slbGone := rfl
@[simp] theorem State.complete_tlb (old : State) : (s.complete old).tlb = s.tlb := rfl
@[simp] theorem State.complete_mem (old : State) : (s.complete old).mem = s.mem := rfl
@[simp] theorem State.complete_time (old : State) : (s.complete old).time = s.time := rfl
@[simp] theorem State.complete_pm (old : State) : (s.complete old).pm = s.pm := rfl
@[simp] theorem State.complete_pend (old : State) : (s.complete old).pend = s.pend := rfl
@[simp] theorem State.complete_checkstop (old : State) : (s.complete old).checkstop = s.checkstop := rfl
@[simp] theorem State.complete_cfg (old : State) : (s.complete old).cfg = s.cfg := rfl

/-! ### State.remember -/

@[simp] theorem State.remember_gpr (old : State) : (s.remember old).gpr = s.gpr := rfl
@[simp] theorem State.remember_nia (old : State) : (s.remember old).nia = s.nia := rfl
@[simp] theorem State.remember_bookI (old : State) : (s.remember old).bookI = s.bookI := rfl
@[simp] theorem State.remember_msr (old : State) : (s.remember old).msr = s.msr := rfl
@[simp] theorem State.remember_spr (old : State) : (s.remember old).spr = s.spr := rfl
@[simp] theorem State.remember_slb (old : State) : (s.remember old).slb = s.slb := rfl
@[simp] theorem State.remember_slbLast (old : State) : (s.remember old).slbLast = s.slbLast := rfl
@[simp] theorem State.remember_slbGone (old : State) : (s.remember old).slbGone = s.slbGone := rfl
@[simp] theorem State.remember_tlb (old : State) : (s.remember old).tlb = s.tlb := rfl
@[simp] theorem State.remember_mem (old : State) : (s.remember old).mem = s.mem := rfl
@[simp] theorem State.remember_time (old : State) : (s.remember old).time = s.time := rfl
@[simp] theorem State.remember_pm (old : State) : (s.remember old).pm = s.pm := rfl
@[simp] theorem State.remember_pend (old : State) : (s.remember old).pend = s.pend := rfl
@[simp] theorem State.remember_checkstop (old : State) : (s.remember old).checkstop = s.checkstop := rfl
@[simp] theorem State.remember_cfg (old : State) : (s.remember old).cfg = s.cfg := rfl

/-! ### State.synchronize -/

@[simp] theorem State.synchronize_gpr (old : State) (x : Executed) : (s.synchronize old x).gpr = s.gpr := rfl
@[simp] theorem State.synchronize_nia (old : State) (x : Executed) : (s.synchronize old x).nia = s.nia := rfl
@[simp] theorem State.synchronize_bookI (old : State) (x : Executed) : (s.synchronize old x).bookI = s.bookI := rfl
@[simp] theorem State.synchronize_msr (old : State) (x : Executed) : (s.synchronize old x).msr = s.msr := rfl
@[simp] theorem State.synchronize_spr (old : State) (x : Executed) : (s.synchronize old x).spr = s.spr := rfl
@[simp] theorem State.synchronize_slb (old : State) (x : Executed) : (s.synchronize old x).slb = s.slb := rfl
@[simp] theorem State.synchronize_slbLast (old : State) (x : Executed) : (s.synchronize old x).slbLast = s.slbLast := rfl
@[simp] theorem State.synchronize_slbGone (old : State) (x : Executed) : (s.synchronize old x).slbGone = s.slbGone := rfl
@[simp] theorem State.synchronize_tlb (old : State) (x : Executed) : (s.synchronize old x).tlb = s.tlb := rfl
@[simp] theorem State.synchronize_mem (old : State) (x : Executed) : (s.synchronize old x).mem = s.mem := rfl
@[simp] theorem State.synchronize_time (old : State) (x : Executed) : (s.synchronize old x).time = s.time := rfl
@[simp] theorem State.synchronize_pm (old : State) (x : Executed) : (s.synchronize old x).pm = s.pm := rfl
@[simp] theorem State.synchronize_pend (old : State) (x : Executed) : (s.synchronize old x).pend = s.pend := rfl
@[simp] theorem State.synchronize_checkstop (old : State) (x : Executed) : (s.synchronize old x).checkstop = s.checkstop := rfl
@[simp] theorem State.synchronize_cfg (old : State) (x : Executed) : (s.synchronize old x).cfg = s.cfg := rfl

/-! ### Reading a register, the current address and the privilege state after an update -/

@[simp] theorem State.readGpr_setGpr (r q : Reg) (v : Word) :
    (s.setGpr r v).readGpr q = if q = r then v else s.readGpr q := by
  simp only [State.readGpr, State.setGpr_gpr]
  by_cases h : q = r
  · simp [h]
  · have : r.toNat ≠ q.toNat := fun e => h (BitVec.eq_of_toNat_eq e.symm)
    simp [h, Vector.getElem_set_ne _ _ this]

@[simp] theorem State.readGpr_advance (q : Reg) : s.advance.readGpr q = s.readGpr q := rfl
@[simp] theorem State.readGpr_drawn (k : Nat) (q : Reg) : (s.drawn k).readGpr q = s.readGpr q := rfl
@[simp] theorem State.readGpr_setByte (a : RealAddr) (v : Byte) (q : Reg) : (s.setByte a v).readGpr q = s.readGpr q := rfl
@[simp] theorem State.readGpr_writeDw (a : RealAddr) (x : Word) (q : Reg) : (s.writeDw a x).readGpr q = s.readGpr q := rfl
@[simp] theorem State.readGpr_withOperand (ea : Word) (q : Reg) : (s.withOperand ea).readGpr q = s.readGpr q := rfl
@[simp] theorem State.cia_drawn (k : Nat) : (s.drawn k).cia = s.cia := rfl
@[simp] theorem State.cia_setByte (a : RealAddr) (v : Byte) : (s.setByte a v).cia = s.cia := rfl
@[simp] theorem State.cia_setGpr (r : Reg) (v : Word) : (s.setGpr r v).cia = s.cia := rfl
@[simp] theorem State.byte_drawn (k : Nat) (a : RealAddr) : (s.drawn k).byte a = s.byte a := rfl
@[simp] theorem State.byte_advance (a : RealAddr) : s.advance.byte a = s.byte a := rfl
@[simp] theorem State.byte_setGpr (r : Reg) (v : Word) (a : RealAddr) : (s.setGpr r v).byte a = s.byte a := rfl
@[simp] theorem State.byte_withOperand (ea : Word) (a : RealAddr) : (s.withOperand ea).byte a = s.byte a := rfl

end Sys2Proof.Machine
end

