-- ==== Sys2Proof/Laws/Ops.lean ====
section
/-! SUPPORT. What each shared operation can do, said once: the tests before an instruction's effect, the paths to storage, taking
an interrupt, time and the Performance Monitor. Proofs cite these lemmas and do not unfold the operations. -/

namespace Sys2Proof.Machine

/-! ### Addresses -/

theorem ea32_ea32 (m a : Word) : ea32 m (ea32 m a) = ea32 m a := by
  unfold ea32
  split
  · rfl
  · ext i
    simp only [zext, low, BitVec.getElem_setWidth, BitVec.getLsbD_setWidth]
    by_cases h : i < 32
    · simpa [h] using fun _ => by omega
    · simp [h]

/-- CIA is a word address as the mode in effect sees it, so saving it truncates nothing. -/
@[simp] theorem State.ea32_cia (s : State) : ea32 s.msr s.cia = s.cia := by
  unfold State.cia ea32
  split
  · rfl
  · ext i hi
    simp only [zext, low, BitVec.getElem_setWidth, BitVec.getLsbD_setWidth, BitVec.getElem_and, BitVec.getElem_not,
      BitVec.getLsbD_and, BitVec.getLsbD_not]
    by_cases h : i < 32 <;> simp [h, BitVec.getLsbD_eq_getElem, hi]

/-! ### Tests before an effect -/

theorem require_next {c : Bool} {r : Refusal} {f : Result} {t : State} :
    require c r f = .next t ↔ c = true ∧ f = .next t := by
  unfold require
  split <;> simp_all

theorem State.privileged_of_not_problem {s : State} (f : Result) (h : s.problem = false) : s.privileged f = f := by
  simp [State.privileged, h]

theorem State.privileged_of_problem {s : State} (f : Result) (h : s.problem = true) :
    s.privileged f = s.raise .privileged := by
  simp [State.privileged, h]

theorem State.privileged_next {s t : State} {f : Result} (h : s.privileged f = .next t) :
    (s.problem = true ∧ t = s.program .privileged) ∨ (s.problem = false ∧ f = .next t) := by
  unfold State.privileged at h
  split at h
  · exact .inl ⟨‹_›, by simpa [State.raise, eq_comm] using h⟩
  · exact .inr ⟨eq_false_of_ne_true ‹_›, h⟩

theorem State.hypervisorOnly_next {s t : State} {f : Result} (h : s.hypervisorOnly f = .next t) :
    (s.hypervisor = false ∧ t = s.program .privileged) ∨ (s.hypervisor = true ∧ f = .next t) := by
  unfold State.hypervisorOnly at h
  split at h
  · exact .inr ⟨‹_›, h⟩
  · exact .inl ⟨eq_false_of_ne_true ‹_›, by simpa [State.raise, eq_comm] using h⟩

theorem State.optional_next {s t : State} {has : Bool} {f : Result} (h : s.optional has f = .next t) :
    (has = false ∧ t = s.program .illegal) ∨ (has = true ∧ f = .next t) := by
  unfold State.optional at h
  split at h
  · exact .inr ⟨‹_›, h⟩
  · exact .inl ⟨eq_false_of_ne_true ‹_›, by simpa [State.raise, eq_comm] using h⟩

/-- A context-altering instruction goes on exactly when it is no implicit branch. -/
theorem State.alter_next {s t u : State} : s.alter t = .next u ↔ implicitBranch s t = false ∧ u = t := by
  unfold State.alter
  rw [require_next, Bool.not_eq_true', Host.Outcome.next.injEq]
  exact and_congr_right fun _ => eq_comm

theorem implicitBranch_eq_false {s t : State} :
    implicitBranch s t = false ↔
      s.fetchAddress s.cia = t.fetchAddress s.cia ∧ s.fetchAddress t.nia = t.fetchAddress t.nia := by
  simp [implicitBranch]

theorem Access.andThen_next {α : Type} {x : Access α} {f : α → State → Result} {t : State}
    (h : x.andThen f = .next t) : x = .trap t ∨ ∃ a u, x = .ok a u ∧ f a u = .next t := by
  cases x with
  | ok a u => exact .inr ⟨a, u, rfl, h⟩
  | trap u => exact .inl (by simpa [Access.andThen] using h)
  | refuse r => simp [Access.andThen] at h

/-! ### Taking an interrupt -/

/-- What an interrupt, or Checkstop, leaves as it was: everything but NIA, MSR, the save/restore registers, DSISR, DAR, the
Checkstop flag and the model's own fields. -/
structure TrapFrame (s t : State) : Prop where
  gpr : t.gpr = s.gpr
  bookI : t.bookI = s.bookI
  slb : t.slb = s.slb
  slbLast : t.slbLast = s.slbLast
  slbGone : t.slbGone = s.slbGone
  /-- The search of a denied access may have filled the TLB. -/
  tlb : t.tlb = s.tlb ∨ ∃ e, t.tlb = e :: s.tlb
  mem : t.mem = s.mem
  time : t.time = s.time
  pm : t.pm = s.pm
  pend : t.pend = s.pend
  cfg : t.cfg = s.cfg
  spr : t.spr = { s.spr with srr0 := t.spr.srr0, srr1 := t.spr.srr1, hsrr0 := t.spr.hsrr0, hsrr1 := t.spr.hsrr1,
                             dsisr := t.spr.dsisr, dar := t.spr.dar }
  trapped : t.run.trapped = true
  /-- An interrupt has been taken, or the processor is in Checkstop. -/
  entered : (∃ k, t.nia = vector k ∧ t.msr = newMsr s.cfg s.spr.lpcr k s.msr ∧ t.checkstop = s.checkstop)
    ∨ (t.nia = s.nia ∧ t.msr = s.msr ∧ t.checkstop = true)

theorem State.takeInterrupt_frame (s : State) (k : IntKind) (addr info : Word) :
    TrapFrame s (s.takeInterrupt k addr info) := by
  refine ⟨rfl, rfl, rfl, rfl, rfl, .inl rfl, rfl, rfl, rfl, rfl, rfl, ?_, rfl, .inl ⟨k, rfl, rfl, rfl⟩⟩
  simp only [State.takeInterrupt]
  split <;> rfl

theorem State.program_frame (s : State) (k : ProgramKind) : TrapFrame s (s.program k) := s.takeInterrupt_frame _ _ _

theorem State.dataStorage_frame (s : State) (d : Half) (a : Word) : TrapFrame s (s.dataStorage d a) :=
  ⟨rfl, rfl, rfl, rfl, rfl, .inl rfl, rfl, rfl, rfl, rfl, rfl, rfl, rfl, .inl ⟨.dataStorage, rfl, rfl, rfl⟩⟩

theorem State.dataSegment_frame (s : State) (a : Word) : TrapFrame s (s.dataSegment a) :=
  ⟨rfl, rfl, rfl, rfl, rfl, .inl rfl, rfl, rfl, rfl, rfl, rfl, rfl, rfl, .inl ⟨.dataSegment, rfl, rfl, rfl⟩⟩

theorem State.instStorage_frame (s : State) (i : Word) : TrapFrame s (s.instStorage i) :=
  ⟨rfl, rfl, rfl, rfl, rfl, .inl rfl, rfl, rfl, rfl, rfl, rfl, rfl, rfl, .inl ⟨.instStorage, rfl, rfl, rfl⟩⟩

theorem State.instSegment_frame (s : State) : TrapFrame s s.instSegment := s.takeInterrupt_frame _ _ _

theorem State.alignment_frame (s : State) (d : Half) (a : Word) : TrapFrame s (s.alignment d a) :=
  ⟨rfl, rfl, rfl, rfl, rfl, .inl rfl, rfl, rfl, rfl, rfl, rfl, rfl, rfl, .inl ⟨.alignment, rfl, rfl, rfl⟩⟩

theorem State.enterCheckstop_frame (s : State) : TrapFrame s s.enterCheckstop :=
  ⟨rfl, rfl, rfl, rfl, rfl, .inl rfl, rfl, rfl, rfl, rfl, rfl, rfl, rfl, .inr ⟨rfl, rfl, rfl⟩⟩

theorem State.machineCheck_frame (s : State) (r : Bool) : TrapFrame s (s.machineCheck r) := by
  unfold State.machineCheck
  split
  · exact ⟨rfl, rfl, rfl, rfl, rfl, .inl rfl, rfl, rfl, rfl, rfl, rfl, rfl, rfl, .inl ⟨.machineCheck, rfl, rfl, rfl⟩⟩
  · exact s.enterCheckstop_frame

theorem State.violate_frame (s : State) (v : Violation) (st : Bool) (ea : Word) : TrapFrame s (s.violate v st ea) := by
  unfold State.violate
  split
  · exact s.dataStorage_frame _ _
  · exact ⟨rfl, rfl, rfl, rfl, rfl, .inl rfl, rfl, rfl, rfl, rfl, rfl, rfl, rfl, .inl ⟨.dataStorage, rfl, rfl, rfl⟩⟩

/-- Drawing undefined values before an interrupt changes nothing that its frame speaks of. -/
theorem TrapFrame.of_drawn {s t : State} {n : Nat} (h : TrapFrame (s.drawn n) t) : TrapFrame s t :=
  ⟨h.gpr, h.bookI, h.slb, h.slbLast, h.slbGone, h.tlb, h.mem, h.time, h.pm, h.pend, h.cfg, h.spr, h.trapped, h.entered⟩

/-- An entry kept in the TLB before an interrupt that alters the TLB no further. -/
theorem TrapFrame.of_keep {s t : State} {e : TlbEntry} {cached : Bool} (h : TrapFrame (s.keep e cached) t)
    (ht : t.tlb = (s.keep e cached).tlb) : TrapFrame s t := by
  refine ⟨h.gpr, h.bookI, h.slb, h.slbLast, h.slbGone, ?_, h.mem, h.time, h.pm, h.pend, h.cfg, h.spr, h.trapped, h.entered⟩
  rw [ht]
  simp only [State.keep, State.filledTlb]
  split
  · exact .inl rfl
  · split
    · exact .inr ⟨e, rfl⟩
    · exact .inl rfl

@[simp] theorem State.violate_tlb (s : State) (v : Violation) (st : Bool) (ea : Word) : (s.violate v st ea).tlb = s.tlb := by
  unfold State.violate
  split <;> rfl

@[simp] theorem State.machineCheck_tlb (s : State) (r : Bool) : (s.machineCheck r).tlb = s.tlb := by
  unfold State.machineCheck
  split <;> rfl

/-! ### Paths to storage -/

theorem Access.bind_ok {α β : Type} {x : Access α} {f : α → State → Access β} {b : β} {t : State}
    (h : x.bind f = .ok b t) : ∃ a u, x = .ok a u ∧ f a u = .ok b t := by
  cases x with
  | ok a u => exact ⟨a, u, rfl, h⟩
  | trap u => cases h
  | refuse r => cases h

theorem Access.bind_trap {α β : Type} {x : Access α} {f : α → State → Access β} {t : State}
    (h : x.bind f = .trap t) : x = .trap t ∨ ∃ a u, x = .ok a u ∧ f a u = .trap t := by
  cases x with
  | ok a u => exact .inr ⟨a, u, rfl, h⟩
  | trap u => exact .inl (by cases h; rfl)
  | refuse r => cases h

/-- A part that passes every check lies at a real address of real mode, or in the page that translation finds; only undefined
values have been drawn. -/
theorem State.probe_ok {s u : State} {k : AccessKind} {p : Path} {x : Part} {t : Target} (h : s.probe k p x = .ok t u) :
    u = s.drawn 3 ∧ t.size = x.size ∧ absentHit s.cfg t.ra x.size = false
      ∧ ((p = .real t.ra ∧ t.entry = none ∧ (s.realViolation k x (some t.ra)).any = false)
        ∨ ∃ b e cached, p = .mapped b e cached ∧ t.entry = some (e, cached) ∧ t.ra = e.realAddress s.cfg x.ea
            ∧ t.w = e.w ∧ t.i = e.i ∧ (s.mappedViolation k x b e).any = false) := by
  simp only [State.probe] at h
  split at h <;> try cases h
  · split at h
    · cases h
    · split at h
      · cases h
      · cases h
        exact ⟨rfl, rfl, eq_false_of_ne_true ‹_›, .inl ⟨rfl, rfl, eq_false_of_ne_true ‹_›⟩⟩
  · rename_i b e cached
    split at h
    · cases h
    · split at h
      · cases h
      · split at h
        · cases h
        · cases h
          rename_i ha
          simp only [Bool.or_eq_true, not_or] at ha
          exact ⟨rfl, rfl, eq_false_of_ne_true ha.1,
            .inr ⟨b, e, cached, rfl, rfl, rfl, rfl, rfl, eq_false_of_ne_true ‹_›⟩⟩

/-- A part that does not pass takes an interrupt or enters Checkstop, and accesses no storage. -/
theorem State.probe_trap {s t : State} {k : AccessKind} {p : Path} {x : Part} (h : s.probe k p x = .trap t) :
    TrapFrame s t := by
  simp only [State.probe] at h
  split at h
  · cases h
  · cases h; exact ((s.drawn 3).dataSegment_frame _).of_drawn
  · cases h; exact ((s.drawn 3).dataStorage_frame _ _).of_drawn
  · cases h; exact ((s.drawn 3).machineCheck_frame _).of_drawn
  · cases h; exact ((s.drawn 3).violate_frame _ _ _).of_drawn
  · split at h
    · cases h; exact ((s.drawn 3).violate_frame _ _ _).of_drawn
    · split at h
      · cases h; exact ((s.drawn 3).machineCheck_frame _).of_drawn
      · cases h
  · split at h
    · cases h
    · split at h
      · cases h; exact (((State.violate_frame _ _ _ _)).of_keep (State.violate_tlb _ _ _ _)).of_drawn
      · split at h
        · cases h; exact ((State.machineCheck_frame _ _).of_keep (State.machineCheck_tlb _ _)).of_drawn
        · cases h

/-- Making an access alters storage and the TLB, where it records Reference and Change, and the model's own fields. -/
theorem State.commit_eq (s : State) (k : AccessKind) (t : Target) :
    ∃ m tlb, s.commit k t =
      { s with mem := m, tlb := tlb, run := { s.run with uses := t.pageUses k.recording ++ s.run.uses } } := by
  unfold State.commit State.recordAs
  split
  · split <;> exact ⟨_, _, rfl⟩
  · exact ⟨_, _, rfl⟩

/-- A data access that succeeds goes to a real address of real mode, recording nothing, or to the page that translation finds,
recording Reference and Change. -/
theorem State.dataAccess_ok {s t : State} {k : AccessKind} {ea : Word} {n : Nat} {a : RealAddr}
    (h : s.dataAccess k ea n = .ok a t) :
    ∃ x : Target, x.ra = a ∧ t = (s.drawn 3).commit k x ∧ absentHit s.cfg a n = false
      ∧ ((s.path (dr s.msr) ea = .real a ∧ x.entry = none ∧ (s.realViolation k (.whole ea n) (some a)).any = false)
        ∨ ∃ b e cached, s.path (dr s.msr) ea = .mapped b e cached ∧ x.entry = some (e, cached)
            ∧ a = e.realAddress s.cfg ea ∧ (s.mappedViolation k (.whole ea n) b e).any = false) := by
  unfold State.dataAccess at h
  obtain ⟨x, u, hp, hu⟩ := Access.bind_ok h
  cases hu
  obtain ⟨rfl, -, ha, hx⟩ := State.probe_ok hp
  refine ⟨x, rfl, rfl, ha, ?_⟩
  obtain hx | ⟨b, e, cached, h1, h2, h3, -, -, h4⟩ := hx
  · exact .inl hx
  · exact .inr ⟨b, e, cached, h1, h2, h3, h4⟩

/-- A data access that does not succeed takes an interrupt or enters Checkstop, and accesses no storage. -/
theorem State.dataAccess_trap {s t : State} {k : AccessKind} {ea : Word} {n : Nat} (h : s.dataAccess k ea n = .trap t) :
    TrapFrame s t := by
  unfold State.dataAccess at h
  obtain h | ⟨x, u, -, hu⟩ := Access.bind_trap h
  · exact State.probe_trap h
  · cases hu

/-- A first part whose checks go on is in supported storage and has no Alignment cause of its attributes. -/
theorem State.probeAll_cons_ok {s u : State} {k : AccessKind} {r : AttributeCauses} {align : State → State}
    {before : Option (BitVec 4)} {x : Part} {xs : List Part} {ts : List Target}
    (h : s.probeAll k r align before (x :: xs) = .ok ts u) :
    (s.path (dr s.msr) x.ea).unsupported = false
      ∧ s.attributesStop r before (s.attributes (s.path (dr s.msr) x.ea) x) = false
      ∧ ((s.probe k (s.path (dr s.msr) x.ea) x).bind fun t u =>
          (u.probeAll k r align (s.attributes (s.path (dr s.msr) x.ea) x) xs).bind fun ts v => .ok (t :: ts) v) = .ok ts u := by
  simp only [State.probeAll] at h
  split at h
  · cases h
  · split at h
    · cases h
    · exact ⟨eq_false_of_ne_true ‹_›, eq_false_of_ne_true ‹_›, h⟩

/-- An operand that passes every check: only undefined values have been drawn. -/
theorem State.probeAll_ok {s u : State} {k : AccessKind} {r : AttributeCauses} {align : State → State}
    {before : Option (BitVec 4)} {xs : List Part} {ts : List Target} (h : s.probeAll k r align before xs = .ok ts u) :
    u = s.drawn (3 * xs.length) ∧ ts.length = xs.length := by
  induction xs generalizing s ts before with
  | nil => cases h; exact ⟨rfl, rfl⟩
  | cons x xs ih =>
    obtain ⟨-, -, h⟩ := State.probeAll_cons_ok h
    obtain ⟨t, v, hp, h⟩ := Access.bind_ok h
    obtain ⟨rfl, -⟩ := State.probe_ok hp
    obtain ⟨ts', w, hq, h⟩ := Access.bind_ok h
    cases h
    obtain ⟨rfl, hl⟩ := ih hq
    refine ⟨?_, by simp [hl]⟩
    simp only [State.drawn, List.length_cons, Nat.mul_add, Nat.add_assoc, Nat.mul_one, Nat.add_comm]

/-- An operand one of whose parts does not pass takes an interrupt or enters Checkstop. -/
theorem State.probeAll_trap {s t : State} {k : AccessKind} {r : AttributeCauses} {align : State → State}
    {before : Option (BitVec 4)} {xs : List Part} (ha : ∀ u, TrapFrame u (align u))
    (h : s.probeAll k r align before xs = .trap t) : TrapFrame s t := by
  induction xs generalizing s before with
  | nil => cases h
  | cons x xs ih =>
    simp only [State.probeAll] at h
    split at h
    · cases h
    · split at h
      · cases h
        exact ha s
      · obtain h | ⟨a, u, hp, h⟩ := Access.bind_trap h
        · exact State.probe_trap h
        · obtain ⟨rfl, -⟩ := State.probe_ok hp
          obtain h | ⟨ts, v, -, h⟩ := Access.bind_trap h
          · exact (ih h).of_drawn
          · cases h

/-- An operand that does not pass takes an interrupt or enters Checkstop, and no part of it is accessed. -/
theorem State.accessAll_trap {s t : State} {k : AccessKind} {r : AttributeCauses} {align : State → State} {xs : List Part}
    (ha : ∀ u, TrapFrame u (align u)) (h : s.accessAll k r align xs = .trap t) : TrapFrame s t := by
  obtain h | ⟨a, u, -, h⟩ := Access.bind_trap h
  · exact State.probeAll_trap ha h
  · cases h

/-- The Alignment interrupt that a storage instruction of Books I and II takes. -/
theorem StorageWord.takeAlignment_frame (x : StorageWord) (w : Half) (s : State) : TrapFrame s (x.takeAlignment w s) :=
  ((s.drawn 1).alignment_frame _ _).of_drawn

/-- An access goes on unless its effective address overflows with translation on. -/
theorem State.overflowTest_next {s t : State} {store : Bool} {ea : Word} {f : Result}
    (h : s.overflowTest store ea f = .next t) :
    TrapFrame s t ∨ ((dr s.msr && s.run.overflow) = false ∧ f = .next t) := by
  unfold State.overflowTest at h
  split at h
  · cases h
    exact .inl (s.dataStorage_frame _ _)
  · exact .inr ⟨eq_false_of_ne_true ‹_›, h⟩

/-- Making several accesses alters no more than making one. -/
theorem State.commitAll_eq (s : State) (k : AccessKind) (ts : List Target) :
    ∃ m tlb run, ts.foldl (fun v x => v.commit k x) s = { s with mem := m, tlb := tlb, run := run }
      ∧ run.trapped = s.run.trapped := by
  induction ts generalizing s with
  | nil => exact ⟨_, _, _, rfl, rfl⟩
  | cons x ts ih =>
    obtain ⟨m, tlb, h⟩ := s.commit_eq k x
    obtain ⟨m', tlb', run, h', hr⟩ := ih (s.commit k x)
    rw [h] at h' hr
    exact ⟨m', tlb', run, by rw [List.foldl_cons, h, h'], hr⟩

/-- An operand that is accessed: storage and the TLB change by recording only, beside the model's own fields. -/
theorem State.accessAll_ok {s t : State} {k : AccessKind} {r : AttributeCauses} {align : State → State} {xs : List Part}
    {ts : List Target} (h : s.accessAll k r align xs = .ok ts t) :
    ts.length = xs.length ∧ t = ts.foldl (fun v x => v.commit k x) (s.drawn (3 * xs.length))
      ∧ ∃ m tlb run, t = { s with mem := m, tlb := tlb, run := run } ∧ run.trapped = s.run.trapped := by
  obtain ⟨ts', u, hp, h⟩ := Access.bind_ok h
  cases h
  obtain ⟨rfl, hl⟩ := State.probeAll_ok hp
  obtain ⟨m, tlb, run, he, hr⟩ := State.commitAll_eq (s.drawn (3 * xs.length)) k ts
  exact ⟨hl, rfl, m, tlb, run, he, hr⟩

theorem State.fetchWord_ok {s t : State} {ra : RealAddr} {w : Half} (h : s.fetchWord ra = .ok w t) :
    w = s.readWord ra ∧ t = s := by
  unfold State.fetchWord at h
  split at h
  · cases h
  · cases h; exact ⟨rfl, rfl⟩

/-- A fetch that succeeds alters only storage and the TLB, where it records Reference, and the model's own fields. -/
theorem State.fetch_ok {s t : State} {w : Half} (h : s.fetch = .ok w t) :
    ∃ m tlb run, t = { s with mem := m, tlb := tlb, run := run } ∧ run.trapped = s.run.trapped := by
  unfold State.fetch at h
  split at h <;> try cases h
  · obtain ⟨-, rfl⟩ := State.fetchWord_ok h
    exact ⟨_, _, _, rfl, rfl⟩
  · split at h
    · cases h
    · split at h
      · cases h
      · split at h
        · cases h
        · obtain ⟨-, rfl⟩ := State.fetchWord_ok h
          exact ⟨_, _, _, rfl, rfl⟩

/-- A fetch that does not succeed takes an interrupt or enters Checkstop. -/
theorem State.fetch_trap {s t : State} (h : s.fetch = .trap t) : TrapFrame s t := by
  unfold State.fetch at h
  split at h
  · unfold State.fetchWord at h
    split at h
    · cases h; exact s.machineCheck_frame _
    · cases h
  · cases h; exact s.instStorage_frame _
  · cases h; exact s.instSegment_frame
  · cases h; exact s.instStorage_frame _
  · cases h; exact s.machineCheck_frame _
  · cases h
  · split at h
    · cases h
    · split at h
      · cases h; exact (State.instStorage_frame _ _).of_keep rfl
      · split at h
        · cases h; exact (State.machineCheck_frame _ _).of_keep (State.machineCheck_tlb _ _)
        · rename_i hn
          simp only [Bool.or_eq_true, not_or] at hn
          unfold State.fetchWord at h
          split at h
          · exact absurd ‹_› hn.1
          · cases h

/-- Bytes stored to an operand: storage takes them, and a reservation may end. -/
theorem State.storeBytes_eq (s : State) (ts : List Target) (bs : List Byte) : ∃ r,
    s.storeBytes ts bs = { s with mem := Memory.writeAll s.mem ((targetBytes ts).zip bs),
                                  bookI := { s.bookI with reservation := r } } := by
  unfold State.storeBytes
  dsimp only
  generalize hm : Memory.writeAll s.mem ((targetBytes ts).zip bs) = m
  clear hm
  suffices h : ∀ (cs : List (RealAddr × Byte)) (r : Option RealAddr), ∃ r',
      cs.foldl (fun t x => t.loseReservation x.1) { s with mem := m, bookI := { s.bookI with reservation := r } } =
        { s with mem := m, bookI := { s.bookI with reservation := r' } } from h _ s.bookI.reservation
  intro cs
  induction cs with
  | nil => exact fun r => ⟨r, rfl⟩
  | cons c cs ih => exact fun r => ih _

/-! ### The end of a step -/

/-- An instruction's next state is finished unless an access of the step conflicts with another (R171) or LPCR[RMI] is 1 where it
must not be (R158). -/
theorem finishResult_next {r : Result} {old t : State} {i : Input} {x : Executed} (h : finishResult r old i x = .next t) :
    ∃ u, r = .next u ∧ attributesDiffer old u = false ∧ u.rmiProper = true ∧ t = u.finish old i x := by
  cases r with
  | next u =>
    obtain ⟨ha, hu⟩ := require_next.mp h
    obtain ⟨hr, hu⟩ := require_next.mp hu
    exact ⟨u, rfl, by simpa using ha, hr, by simpa [eq_comm] using hu⟩
  | fault f => cases h
  | refused e => cases h

/-- A step at a boundary is exactly one of the cases of R501. -/
theorem State.boundary_next {s t : State} {i : Input} (h : s.boundary i = .next t) :
    (∃ k, s.pend.sysReset = some k ∧ t = (s.systemReset k).elapse s i none)
      ∨ (s.pend.sysReset = none ∧ s.checkstop = false ∧
        ((∃ r, s.pend.machineCheck = some r ∧ t = (s.takeMachineCheck r).elapse s i none)
          ∨ (s.pend.machineCheck = none ∧ s.rmiProper = true ∧
            ((∃ k ks, s.pendingInterrupts = k :: ks
                ∧ t = ((s.drawn 1).takePending (pickOne k ks s.run.draws)).elapse s i none)
              ∨ (s.pendingInterrupts = [] ∧ s.instruction i = .next t))))) := by
  unfold State.boundary at h
  split at h
  · exact .inl ⟨_, ‹_›, by simpa [eq_comm] using h⟩
  · refine .inr ⟨‹_›, ?_⟩
    split at h
    · cases h
    · refine ⟨eq_false_of_ne_true ‹_›, ?_⟩
      split at h
      · exact .inl ⟨_, ‹_›, by simpa [eq_comm] using h⟩
      · obtain ⟨hr, h⟩ := require_next.mp h
        refine .inr ⟨‹_›, hr, ?_⟩
        split at h
        · exact .inl ⟨_, _, ‹_›, by simpa [eq_comm] using h⟩
        · exact .inr ⟨‹_›, h⟩

/-! ### Time and the Performance Monitor -/

/-- What evaluating conditions and events may change of the model's own fields: an alert draws an undefined value and makes SIAR
and SDAR defined, active tracing makes them undefined. -/
structure RunFrame (a b : Run) : Prop where
  eq : b = { a with draws := b.draws, siarStale := b.siarStale, sdarStale := b.sdarStale }
  draws : a.draws ≤ b.draws

theorem RunFrame.refl (a : Run) : RunFrame a a := ⟨rfl, Nat.le_refl _⟩

theorem RunFrame.trans {a b c : Run} (h : RunFrame a b) (h' : RunFrame b c) : RunFrame a c :=
  ⟨by rw [h'.eq, h.eq], h.draws.trans h'.draws⟩

/-- Evaluating conditions and events alters the Performance Monitor's registers only. -/
theorem State.pmEvaluate_eq (s : State) (e : Bool) (p : Sample) :
    ∃ pm run, s.pmEvaluate e p = { s with pm := pm, run := run } ∧ RunFrame s.run run := by
  unfold State.pmEvaluate
  split
  · dsimp only
    split
    · exact ⟨_, _, rfl, rfl, Nat.le_succ _⟩
    · exact ⟨_, _, rfl, .refl _⟩
  · exact ⟨s.pm, s.run, rfl, .refl _⟩

/-- Counting alters the counters only. -/
theorem State.count_eq (s : State) (m : Word) (h : Happened) :
    ∃ pmc, s.count m h = { s with pm := { s.pm with pmc := pmc } } := by
  unfold State.count
  split
  · exact ⟨_, rfl⟩
  · exact ⟨s.pm.pmc, rfl⟩

/-- One tick: the timers move together, and nothing else but the Performance Monitor may change. -/
theorem State.tick_eq (s : State) : ∃ pm run, s.tick = { s with
    time := { tb := if s.cfg.tbEnabled then s.time.tb + 1 else s.time.tb, dec := s.time.dec - 1,
              hdec := s.time.hdec - 1, purr := s.time.purr + 1 }
    pm := pm, run := run } ∧ RunFrame s.run run := by
  unfold State.tick
  dsimp only
  obtain ⟨pm, run, h, hr⟩ := State.pmEvaluate_eq { s with
    time := { tb := if s.cfg.tbEnabled then s.time.tb + 1 else s.time.tb, dec := s.time.dec - 1,
              hdec := s.time.hdec - 1, purr := s.time.purr + 1 } } _ _
  exact ⟨pm, run, h, hr⟩

theorem State.ticks_eq (s : State) (n : Nat) :
    ∃ time pm run, s.ticks n = { s with time := time, pm := pm, run := run } ∧ RunFrame s.run run := by
  induction n generalizing s with
  | zero => exact ⟨_, _, _, rfl, .refl _⟩
  | succ n ih =>
    obtain ⟨pm, run, h, hr⟩ := s.tick_eq
    obtain ⟨time, pm', run', h', hr'⟩ := ih s.tick
    refine ⟨time, pm', run', ?_, ?_⟩
    · rw [State.ticks, h', h]
    · rw [h] at hr'
      exact hr.trans hr'

/-- Counting and ticks alter the timers and the Performance Monitor only. -/
theorem State.elapse_eq (t old : State) (i : Input) (c : Option Executed) :
    ∃ time pm run, t.elapse old i c = { t with time := time, pm := pm, run := run } ∧ RunFrame t.run run := by
  unfold State.elapse
  dsimp only
  obtain ⟨pmc, hc⟩ := t.count_eq old.msr ⟨c, i.events⟩
  rw [hc]
  generalize hu : ({ t with pm := { t.pm with pmc := pmc } } : State) = u
  obtain ⟨pm, run, he, hr⟩ := u.pmEvaluate_eq false u.lastSample
  rw [he]
  obtain ⟨time, pm', run', hk, hr'⟩ := State.ticks_eq { u with pm := pm, run := run } (i.ticks.getD
    ({ u with pm := pm, run := run } : State).cfg.ticksPerStep)
  subst hu
  rw [hk]
  unfold State.afterTracing
  split
  · exact ⟨time, pm', _, rfl, (hr.trans hr').trans ⟨rfl, Nat.le_refl _⟩⟩
  · exact ⟨time, pm', run', rfl, hr.trans hr'⟩

end Sys2Proof.Machine
end

