-- ==== Sys2Proof/Laws/PerInstr.lean ====
section
/-! SUPPORT. Statements made for every instruction, one lemma per constructor. -/

set_option linter.unusedSimpArgs false

namespace Sys2Proof.Laws

/-- The word of an instruction has the fixed bits of its row of the opcode table (R291, R292). -/
def MatchesRow.Statement (i : Instr) : Prop := encode i &&& i.rowMask = i.rowMatch

/-- A word masked with the fixed bits of a row is the row's pattern if every bit that the mask keeps agrees with it
and every bit that it drops is 0 in the pattern. -/
theorem half_ext {w mask pattern : Half} (h : ∀ i < 32, (w &&& mask).getLsbD i = pattern.getLsbD i) : w &&& mask = pattern :=
  BitVec.eq_of_getLsbD_eq h

theorem MatchesRow.sc (lev : Bool) : MatchesRow.Statement (.sc lev) :=
  half_ext fun i hi => by
    simp only [encode, xform, bit1, Instr.rowMask, Instr.rowMatch, BitVec.getLsbD_and, BitVec.getLsbD_append]
    interval_cases i <;> simp

theorem MatchesRow.rfid : MatchesRow.Statement .rfid := by
  unfold MatchesRow.Statement
  decide

theorem MatchesRow.hrfid : MatchesRow.Statement .hrfid := by
  unfold MatchesRow.Statement
  decide

theorem MatchesRow.mtspr (spr : BitVec 10) (rs : Reg) : MatchesRow.Statement (.mtspr spr rs) :=
  half_ext fun i hi => by
    simp only [encode, xform, bit1, Instr.rowMask, Instr.rowMatch, BitVec.getLsbD_and, BitVec.getLsbD_append]
    interval_cases i <;> simp

theorem MatchesRow.mfspr (rt : Reg) (spr : BitVec 10) : MatchesRow.Statement (.mfspr rt spr) :=
  half_ext fun i hi => by
    simp only [encode, xform, bit1, Instr.rowMask, Instr.rowMatch, BitVec.getLsbD_and, BitVec.getLsbD_append]
    interval_cases i <;> simp

theorem MatchesRow.mtmsrd (rs : Reg) (l : Bool) : MatchesRow.Statement (.mtmsrd rs l) :=
  half_ext fun i hi => by
    simp only [encode, xform, bit1, Instr.rowMask, Instr.rowMatch, BitVec.getLsbD_and, BitVec.getLsbD_append]
    interval_cases i <;> simp

theorem MatchesRow.mfmsr (rt : Reg) : MatchesRow.Statement (.mfmsr rt) :=
  half_ext fun i hi => by
    simp only [encode, xform, bit1, Instr.rowMask, Instr.rowMatch, BitVec.getLsbD_and, BitVec.getLsbD_append]
    interval_cases i <;> simp

theorem MatchesRow.mtmsr (rs : Reg) (l : Bool) : MatchesRow.Statement (.mtmsr rs l) :=
  half_ext fun i hi => by
    simp only [encode, xform, bit1, Instr.rowMask, Instr.rowMatch, BitVec.getLsbD_and, BitVec.getLsbD_append]
    interval_cases i <;> simp

theorem MatchesRow.slbie (rb : Reg) : MatchesRow.Statement (.slbie rb) :=
  half_ext fun i hi => by
    simp only [encode, xform, bit1, Instr.rowMask, Instr.rowMatch, BitVec.getLsbD_and, BitVec.getLsbD_append]
    interval_cases i <;> simp

theorem MatchesRow.slbia : MatchesRow.Statement .slbia := by
  unfold MatchesRow.Statement
  decide

theorem MatchesRow.slbmte (rs : Reg) (rb : Reg) : MatchesRow.Statement (.slbmte rs rb) :=
  half_ext fun i hi => by
    simp only [encode, xform, bit1, Instr.rowMask, Instr.rowMatch, BitVec.getLsbD_and, BitVec.getLsbD_append]
    interval_cases i <;> simp

theorem MatchesRow.slbmfev (rt : Reg) (rb : Reg) : MatchesRow.Statement (.slbmfev rt rb) :=
  half_ext fun i hi => by
    simp only [encode, xform, bit1, Instr.rowMask, Instr.rowMatch, BitVec.getLsbD_and, BitVec.getLsbD_append]
    interval_cases i <;> simp

theorem MatchesRow.slbmfee (rt : Reg) (rb : Reg) : MatchesRow.Statement (.slbmfee rt rb) :=
  half_ext fun i hi => by
    simp only [encode, xform, bit1, Instr.rowMask, Instr.rowMatch, BitVec.getLsbD_and, BitVec.getLsbD_append]
    interval_cases i <;> simp

theorem MatchesRow.tlbie (rb : Reg) (l : Bool) : MatchesRow.Statement (.tlbie rb l) :=
  half_ext fun i hi => by
    simp only [encode, xform, bit1, Instr.rowMask, Instr.rowMatch, BitVec.getLsbD_and, BitVec.getLsbD_append]
    interval_cases i <;> simp

theorem MatchesRow.tlbiel (rb : Reg) (l : Bool) : MatchesRow.Statement (.tlbiel rb l) :=
  half_ext fun i hi => by
    simp only [encode, xform, bit1, Instr.rowMask, Instr.rowMatch, BitVec.getLsbD_and, BitVec.getLsbD_append]
    interval_cases i <;> simp

theorem MatchesRow.tlbia : MatchesRow.Statement .tlbia := by
  unfold MatchesRow.Statement
  decide

theorem MatchesRow.tlbsync : MatchesRow.Statement .tlbsync := by
  unfold MatchesRow.Statement
  decide

theorem MatchesRow.lq (rt : Reg) (dq : BitVec 12) (ra : Reg) : MatchesRow.Statement (.lq rt dq ra) :=
  half_ext fun i hi => by
    simp only [encode, xform, bit1, Instr.rowMask, Instr.rowMatch, BitVec.getLsbD_and, BitVec.getLsbD_append]
    interval_cases i <;> simp

theorem MatchesRow.stq (rs : Reg) (ds : BitVec 14) (ra : Reg) : MatchesRow.Statement (.stq rs ds ra) :=
  half_ext fun i hi => by
    simp only [encode, xform, bit1, Instr.rowMask, Instr.rowMatch, BitVec.getLsbD_and, BitVec.getLsbD_append]
    interval_cases i <;> simp

theorem MatchesRow.mtsr (sr : BitVec 4) (rs : Reg) : MatchesRow.Statement (.mtsr sr rs) :=
  half_ext fun i hi => by
    simp only [encode, xform, bit1, Instr.rowMask, Instr.rowMatch, BitVec.getLsbD_and, BitVec.getLsbD_append]
    interval_cases i <;> simp

theorem MatchesRow.mtsrin (rs : Reg) (rb : Reg) : MatchesRow.Statement (.mtsrin rs rb) :=
  half_ext fun i hi => by
    simp only [encode, xform, bit1, Instr.rowMask, Instr.rowMatch, BitVec.getLsbD_and, BitVec.getLsbD_append]
    interval_cases i <;> simp

theorem MatchesRow.mfsr (rt : Reg) (sr : BitVec 4) : MatchesRow.Statement (.mfsr rt sr) :=
  half_ext fun i hi => by
    simp only [encode, xform, bit1, Instr.rowMask, Instr.rowMatch, BitVec.getLsbD_and, BitVec.getLsbD_append]
    interval_cases i <;> simp

theorem MatchesRow.mfsrin (rt : Reg) (rb : Reg) : MatchesRow.Statement (.mfsrin rt rb) :=
  half_ext fun i hi => by
    simp only [encode, xform, bit1, Instr.rowMask, Instr.rowMatch, BitVec.getLsbD_and, BitVec.getLsbD_append]
    interval_cases i <;> simp

theorem MatchesRow.ptesync : MatchesRow.Statement .ptesync := by
  unfold MatchesRow.Statement
  decide

end Sys2Proof.Laws
end

