-- ==== Sys2Proof/Tests/Slice0.lean ====
section
/-! SUPPORT. Tests of the model against the vectors of 95_test_vectors.md, and for each statement with hypotheses a state that
meets them. -/

namespace Sys2Proof.Tests

open Sys2Proof.Machine

/-! ### Helpers -/

/-- A value of the next state, if there is one. -/
def after {α : Type} (r : Result) (f : State → α) : Option α :=
  match r with
  | .next t => some (f t)
  | _ => none

/-- The reason of a refusal, if it is one. -/
def refusal (r : Result) : Option Refusal :=
  match r with
  | .refused e => some e
  | _ => none

/-- The instruction of a word, executed. -/
def run (w : Half) (s : State) : Result :=
  match decode w with
  | .ok i => exec i s
  | .error _ => .refused (.outsideBookIII w)

/-- The state of section 1 of 95_test_vectors.md, privileged (S0). -/
def privileged : State :=
  { State.reset with
    msr := 0x8000000000001002
    spr := { State.reset.spr with lpcr := 0x10000004, rmor := 0x10000000 }
    time := { tb := 0x1000, dec := 0x7FFFFFFF, hdec := 0x7FFFFFFF, purr := 0 }
    pm := { State.reset.pm with mmcr0 := 0x80000000 } }

/-- The same in hypervisor state (S1). -/
def hypervisor : State := { privileged with msr := 0x9000000000001002 }

/-- The same in problem state, at CIA 0x5000. -/
def problem : State := { privileged with msr := 0x800000000000D032, nia := 0x5000 }

/-- The same in 32-bit mode, privileged. -/
def narrow : State := { privileged with msr := 0x1002, nia := 0x1000 }

/-- Fixture F: SLB entry 3 maps ESID 1, its page is 0x1004_5000, real 0x0200_0000. -/
def mapped (s : State) : State :=
  { ((s.writeDw 0x100B320 0x123001).writeDw 0x100B328 0x02000012) with
    spr := { s.spr with sdr1 := 0x1000000 }
    slb := s.slb.set 3 ⟨1, true, 0x123, false, true, false, false, false⟩ }

/-- The TLB of section 6 of 95_test_vectors.md. -/
def twoTlb : State :=
  { hypervisor with tlb := [⟨0x1230045, false, 0x2000000, 0⟩, ⟨0x456A, true, 0x3000000, 0⟩] }

/-- The page at EA 0x2000 is mapped to where offset real mode finds it. -/
def identity (s : State) : State :=
  { s with slb := s.slb.set 0 ⟨0, true, 0, false, true, false, false, false⟩, tlb := [⟨2, false, 0x10002002, 0⟩] }

/-- SRR0, SRR1, MSR and NIA. -/
def entry (s : State) : Word × Word × Word × Word := (s.spr.srr0, s.spr.srr1, s.msr, s.nia)

/-! ### Well-formedness and decoding -/

theorem test_lq_odd_register_refused : Instr.wellFormed (.lq 5 2 3) = false := by decide
theorem test_lq_target_is_base_refused : Instr.wellFormed (.lq 4 2 4) = false := by decide
theorem test_lq_even_register_accepted : Instr.wellFormed (.lq 4 2 3) = true := by decide
theorem test_stq_odd_register_refused : Instr.wellFormed (.stq 7 0 1) = false := by decide
theorem test_stq_base_may_be_source : Instr.wellFormed (.stq 6 0 6) = true := by decide

theorem test_decode_sc : decodeTableWord 32 0x44000022 = some (.sc true) := by decide
theorem test_decode_rfid : decodeTableWord 32 0x4C000024 = some .rfid := by decide
theorem test_decode_hrfid : decodeTableWord 32 0x4C000224 = some .hrfid := by decide
theorem test_decode_mtspr : decodeTableWord 32 0x7C75FBA6 = some (.mtspr 1013 3) := by decide
theorem test_decode_mfspr : decodeTableWord 32 0x7C6822A6 = some (.mfspr 3 136) := by decide
theorem test_decode_mtmsrd : decodeTableWord 32 0x7C810164 = some (.mtmsrd 4 true) := by decide
theorem test_decode_mfmsr : decodeTableWord 32 0x7CA000A6 = some (.mfmsr 5) := by decide
theorem test_decode_mtmsr : decodeTableWord 32 0x7C610124 = some (.mtmsr 3 true) := by decide
theorem test_decode_slbie_reserved_ignored : decodeTableWord 32 0x7FFF2364 = some (.slbie 4) := by decide
theorem test_decode_slbia : decodeTableWord 32 0x7C0003E4 = some .slbia := by decide
theorem test_decode_slbmte : decodeTableWord 32 0x7CA03324 = some (.slbmte 5 6) := by decide
theorem test_decode_slbmfev : decodeTableWord 32 0x7D405EA6 = some (.slbmfev 10 11) := by decide
theorem test_decode_slbmfee : decodeTableWord 32 0x7D805F26 = some (.slbmfee 12 11) := by decide
theorem test_decode_tlbie : decodeTableWord 32 0x7C202264 = some (.tlbie 4 true) := by decide
theorem test_decode_tlbiel : decodeTableWord 32 0x7C002224 = some (.tlbiel 4 false) := by decide
theorem test_decode_tlbia : decodeTableWord 32 0x7C0002E4 = some .tlbia := by decide
theorem test_decode_tlbsync : decodeTableWord 32 0x7C00046C = some .tlbsync := by decide
theorem test_decode_lq : decodeTableWord 32 0xE0830020 = some (.lq 4 2 3) := by decide
theorem test_decode_stq : decodeTableWord 32 0xF9030012 = some (.stq 8 4 3) := by decide
theorem test_decode_std_is_not_book_iii : decodeTableWord 32 0xF9030010 = none := by decide
theorem test_decode_mtsr : decodeTableWord 32 0x7C6501A4 = some (.mtsr 5 3) := by decide
theorem test_decode_mtsrin : decodeTableWord 32 0x7C6031E4 = some (.mtsrin 3 6) := by decide
theorem test_decode_mfsr : decodeTableWord 32 0x7C8504A6 = some (.mfsr 4 5) := by decide
theorem test_decode_mfsrin : decodeTableWord 32 0x7C803526 = some (.mfsrin 4 6) := by decide
theorem test_decode_ptesync : decodeTableWord 32 0x7C4004AC = some .ptesync := by decide

/-! ### Instructions, from the vectors named -/

/-- V2.1. -/
theorem test_sc : after (run 0x44000002 { privileged with msr := 0x800000000000F032, nia := 0x10000 }) entry =
    some (0x10004, 0x800000000000F032, 0x8000000000001000, 0xC00) := by decide
/-- V2.4: 32-bit mode, at the end of the address space. -/
theorem test_sc_narrow : after (run 0x44000002 { privileged with msr := 0xD032, nia := 0xFFFFFFFC }) entry =
    some (0, 0xD032, 0x8000000000001000, 0xC00) := by decide
/-- V2.10: HV cannot rise, ME is kept. -/
theorem test_rfid : after (run 0x4C000024 { privileged with spr := { privileged.spr with
      srr0 := 0x2000, srr1 := 0x9000000000008032 } }) (fun t => (t.msr, t.nia)) = some (0x8000000000009032, 0x2000) := by
  decide
/-- V2.12: to 32-bit mode. -/
theorem test_rfid_narrow : after (run 0x4C000024 { privileged with spr := { privileged.spr with
      srr0 := 0xFFFFFFFF00003002, srr1 := 0x1002 } }) (fun t => (t.msr, t.nia)) = some (0x1002, 0x3000) := by decide
/-- V2.16: PR forces EE, IR and DR. -/
theorem test_hrfid : after (run 0x4C000224 { hypervisor with spr := { hypervisor.spr with
      hsrr0 := 0x10045000, hsrr1 := 0x8000000000004000 } }) (fun t => (t.msr, t.nia)) =
    some (0x800000000000C030, 0x10045000) := by decide
/-- V2.17: in state 0b00 (D35). -/
theorem test_hrfid_privileged : after (run 0x4C000224 { privileged with nia := 0x3000 }) entry =
    some (0x3000, 0x8000000000041002, 0x8000000000001000, 0x700) := by decide
/-- V3.7: reserved bits of SDR1. -/
theorem test_mtspr : after (run 0x7C7903A6 (hypervisor.setGpr 3 0x123456789ABCDEF0)) (fun t => t.spr.sdr1) =
    some 0x123456789ABC0010 := by decide
/-- V3.5: a hypervisor resource in state 0b00. -/
theorem test_mtspr_hypervisor_resource : after (run 0x7C7903A6 (privileged.setGpr 3 1)) (fun t => (t.spr.srr1, t.spr.sdr1)) =
    some (0x8000000000041002, 0) := by decide
/-- V3.3: a 32-bit register is zero-extended. -/
theorem test_mfspr : after (run 0x7C7602A6 { privileged with time := { privileged.time with dec := 0xFFFFFFFF } })
    (fun t => t.readGpr 3) = some 0xFFFFFFFF := by decide
/-- V3.12: SPRG3 by its privileged number, in problem state. -/
theorem test_mfspr_privileged : after (run 0x7C7342A6 problem) (fun t => t.spr.srr1) = some 0x800000000004D032 := by decide
/-- V4.5: into problem state with translation on; the code is mapped where it stands (R632). -/
theorem test_mtmsrd : after (run 0x7C600164 ((identity { privileged with nia := 0x2000 }).setGpr 3 0x8000000000004002))
    (fun t => (t.msr, t.nia)) = some (0x800000000000D032, 0x2004) := by decide
/-- V4.1: L=1 writes EE and RI only. -/
theorem test_mtmsrd_l1 : after (run 0x7C610164 ({ hypervisor with msr := 0x9000000000001032 }.setGpr 3 0x8000))
    (fun t => t.msr) = some 0x9000000000009030 := by decide
/-- V4.11. -/
theorem test_mfmsr : after (run 0x7CA000A6 privileged) (fun t => t.readGpr 5) = some 0x8000000000001002 := by decide
/-- V4.9: the high-order word is left alone. -/
theorem test_mtmsr : after (run 0x7C600124 ((identity { privileged with nia := 0x2000 }).setGpr 3 0x1234567800008032)) (fun t => t.msr) =
    some 0x8000000000009032 := by decide
/-- V5.6 and V5.7: the entry of ESID 1 goes, and only for ESID 1. -/
theorem test_slbie : after (run 0x7C002364 ((mapped privileged).setGpr 4 0x10000000)) (fun t => (t.slbEntry 3).v) = some false := by
  decide
theorem test_slbie_other : after (run 0x7C002364 ((mapped privileged).setGpr 4 0x20000000)) (fun t => t.slbEntry 3) =
    some ⟨1, true, 0x123, false, true, false, false, false⟩ := by decide
/-- V5.8: entry 0 stays. -/
theorem test_slbia : after (run 0x7C0003E4
    { mapped privileged with slb := (mapped privileged).slb.set 0 ⟨7, true, 7, false, false, false, false, false⟩ })
    (fun t => ((t.slbEntry 0).esid, (t.slbEntry 3).v)) = some (7, false) := by decide
/-- V5.1. -/
theorem test_slbmte : after (run 0x7CA03324 ((privileged.setGpr 5 0x123400).setGpr 6 0x18000003)) (fun t => t.slbEntry 3) =
    some ⟨1, true, 0x123, false, true, false, false, false⟩ := by decide
/-- V5.10 (D41). -/
theorem test_slbmte_invalid : refusal (run 0x7CA03324 ((privileged.setGpr 5 0x123400).setGpr 6 0x10000003)) =
    some .slbmteInvalid := by decide
/-- V5.2. -/
theorem test_slbmfev : after (run 0x7D405EA6 ((mapped privileged).setGpr 11 3)) (fun t => t.readGpr 10) = some 0x123400 := by
  decide
/-- V5.3. -/
theorem test_slbmfee : after (run 0x7D805F26 ((mapped privileged).setGpr 11 3)) (fun t => t.readGpr 12) = some 0x18000000 := by
  decide
/-- V6.1. -/
theorem test_tlbie : after (run 0x7C002264 (twoTlb.setGpr 4 0x1230045000)) (fun t => t.tlb) =
    some [⟨0x456A, true, 0x3000000, 0⟩] := by decide
/-- V6.3: the large page. -/
theorem test_tlbie_large : after (run 0x7C202264 (twoTlb.setGpr 4 0x456A000000)) (fun t => t.tlb) =
    some [⟨0x1230045, false, 0x2000000, 0⟩] := by decide
/-- V6.4. -/
theorem test_tlbiel : after (run 0x7C002224 (twoTlb.setGpr 4 0x1230045000)) (fun t => t.tlb) =
    some [⟨0x456A, true, 0x3000000, 0⟩] := by decide
/-- V6.5. -/
theorem test_tlbia : after (run 0x7C0002E4 twoTlb) (fun t => t.tlb) = some [] := by decide
/-- V6.6. -/
theorem test_tlbsync : after (run 0x7C00046C twoTlb) (fun t => (t.tlb.length, t.nia)) = some (2, 0x104) := by decide
/-- V7.1. -/
theorem test_lq : after (run 0xE0830020 (((hypervisor.writeDw 0x1020 0x0001020304050607).writeDw 0x1028
      0x08090A0B0C0D0E0F).setGpr 3 0x1000)) (fun t => (t.readGpr 4, t.readGpr 5)) =
    some (0x0001020304050607, 0x08090A0B0C0D0E0F) := by decide
/-- V7.8: DAR of the Alignment interrupt. -/
theorem test_lq_unaligned : after (run 0xE0830020 (hypervisor.setGpr 3 0x1008)) (fun t => (t.spr.dar, t.nia)) =
    some (0x1028, 0x600) := by decide
/-- V7.9. -/
theorem test_stq : after (run 0xF8C1FFF2 (((hypervisor.setGpr 1 0x2000).setGpr 6 0x1111111122222222).setGpr 7
      0x3333333344444444)) (fun t => (t.readDw 0x1FF0, t.readDw 0x1FF8)) =
    some (0x1111111122222222, 0x3333333344444444) := by decide
/-- V7.11. -/
theorem test_stq_odd : after (run 0xF8E10002 hypervisor) (fun t => t.spr.srr1) = some 0x9000000000081002 := by decide
/-- V8.1. -/
theorem test_mtsr : after (run 0x7C6501A4 (narrow.setGpr 3 0xFFFFFFFFC0123456)) (fun t => t.slbEntry 5) =
    some ⟨5, true, 0x123456, true, false, false, false, false⟩ := by decide
/-- V8.3. -/
theorem test_mtsrin : after (run 0x7C6031E4 ((narrow.setGpr 3 0x20000001).setGpr 6 0x5ABCDEF0)) (fun t => t.slbEntry 5) =
    some ⟨5, true, 1, false, true, false, false, false⟩ := by decide
/-- V8.2: the defined half of RT. -/
theorem test_mfsr : after (run 0x7C8504A6
    { narrow with slb := narrow.slb.set 5 ⟨5, true, 0x123456, true, false, false, false, false⟩ }) (fun t => t.readGpr 4) =
    some (high (Config.freeWord 0) ++ 0x40123456#32) := by rfl
/-- V8.4. -/
theorem test_mfsrin : after (run 0x7C803526
    ({ narrow with slb := narrow.slb.set 5 ⟨5, true, 1, false, true, false, false, false⟩ }.setGpr 6 0x5ABCDEF0)) (fun t => t.readGpr 4) =
    some (high (Config.freeWord 0) ++ 0x20000001#32) := by rfl
/-- R398. -/
theorem test_ptesync : after (run 0x7C4004AC problem) (fun t => t.nia) = some 0x5004 := by decide

/-! ### The step -/

/-- The first instruction after reset is fetched from real address 0x100 (R120). -/
theorem test_step_after_reset : after (step (State.reset.withFetchWord 32 0x7C6000A6))
    (fun t => (t.readGpr 3, t.nia, t.time.tb)) = some (0x9000000000000000, 0x104, 1) := by decide
/-- A word of Book I, of whose effect the environment says nothing (R286). -/
theorem test_step_book_i_refused : refusal (step (State.reset.withFetchWord 32 0x7C632214)) =
    some (.outsideBookIII 0x7C632214) := by decide

/-! ### Words of Books I and II -/

/-- A word of Books I and II, of whose effect nothing is known. -/
def outside (w : Half) (s : State) : Result := execOutside (decodeOutside w) w none s

/-- The effect of a Book I instruction that leaves the registers as they are in `s` and, as a Branch, goes to `nia`. -/
def effect (s : State) (nia : Word) (traps taken : Bool) : BaseEffect := ⟨traps, taken, nia, s.gpr, s.bookI, []⟩

/-- A word of Books I and II stands where the next step fetches, and the environment says what its effect is. -/
def placed (w : Half) (s : State) (e : BaseEffect) : State :=
  { s with run := { s.run with inputs := [{ Input.quiet with base := some (.runs e) }] } }.withFetchWord 32 w.toNat

/-- The state of section 2.18 of 95_test_vectors.md at CIA 0x3000, with an MSR. -/
def tracing (m : Word) (ext : Bool) : State :=
  { privileged with msr := m, nia := 0x3000, cfg := { privileged.cfg with hasTraceExt := ext } }

/-- V10.11: `lmw r29,2(r1)`. -/
theorem test_lmw_unaligned : after (outside 0xBBA10002 (hypervisor.setGpr 1 0x1000))
    (fun t => (t.spr.dar, t.spr.dsisr, t.nia)) = some (0x1002, 0x1FA1, 0x600) := by decide
/-- V10.12: `lwarx r5,0,r4`; bits 27:31 are undefined. -/
theorem test_lwarx_unaligned : after (outside 0x7CA02028 (hypervisor.setGpr 4 0x1002))
    (fun t => (t.spr.dar, t.nia)) = some (0x1002, 0x600) := by decide
/-- V10.14: `fadd` and `lfs` with MSR[FP]=0. -/
theorem test_fp_unavailable : after (outside 0xFC21082A privileged) entry =
      some (0x100, 0x8000000000001002, 0x8000000000001000, 0x800)
    ∧ (after (outside 0xC0230000 privileged) fun t => t.nia) = some 0x800 := by decide
/-- V10.15: `tw 31,r0,r0` traps. -/
theorem test_trap : after (execOutside (decodeOutside 0x7FE00008) 0x7FE00008 (some (effect privileged 0 true false)) privileged)
    (fun t => (t.spr.srr1, t.nia)) = some (0x8000000000021002, 0x700) := by decide
/-- V19.6: `std` across a segment boundary. -/
theorem test_std_across_segments : after (outside 0xF8C30000
      ({ mapped privileged with msr := 0x8000000000001012 }.setGpr 3 0x1FFFFFFC)) (fun t => (t.spr.dar, t.nia)) =
    some (0x1FFFFFFC, 0x600) := by decide
/-- R466: `lwz` whose second half lies in a page without an entry. -/
theorem test_lwz_across_pages : after (outside 0x80A30000
      ({ mapped privileged with msr := 0x8000000000001012 }.setGpr 3 0x10045FFE))
    (fun t => (t.spr.dar, t.nia)) = some (0x10046000, 0x300) := by decide
/-- R416: `ecowx` with EAR[E]=0. -/
theorem test_ecowx_disabled : after (outside 0x7C60236C { privileged with spr := { privileged.spr with ear := 5 } })
    (fun t => (t.spr.dsisr, t.nia)) = some (0x02100000 ||| hbitIf 15 (Config.freeBit 1), 0x300) := by rfl
/-- V18.2: Branch Trace of `b`, and of `addi` none. -/
theorem test_branch_trace : (after (step (placed 0x48000000 (tracing 0x8000000000001202 false)
      (effect privileged 0x4000 false true))) entry) = some (0x4000, 0x8000000000001202, 0x8000000000001000, 0xD00)
    ∧ (after (step (placed 0x38600001 (tracing 0x8000000000001202 false) (effect privileged 0 false false))) fun t => t.nia) =
      some 0x3004 := by decide
/-- V18.5: the Trace extensions tell a taken Branch. -/
theorem test_trace_taken_branch : (after (step (placed 0x48000000 (tracing 0x8000000000001402 true)
    (effect privileged 0x4000 false true))) entry) = some (0x4000, 0x8000000000081402, 0x8000000000001000, 0xD00) := by decide
/-- V18.6: with SE and BE, `addi` is not traced, and `dcbz` is. -/
theorem test_trace_extended : (after (step (placed 0x38600001 (tracing 0x8000000000001602 true)
      (effect privileged 0 false false))) fun t => t.nia) = some 0x3004
    ∧ (after (step (placed 0x7C0007EC (tracing 0x8000000000001602 true) (effect privileged 0 false false))) fun t =>
        (t.nia, t.spr.srr1)) = some (0xD00, 0x8000000028001602) := by decide
/-- A plain `lbz` of fixture F: R is set in the Page Table Entry (R175). -/
theorem test_lbz_records : (after (execOutside (decodeOutside 0x88A30000) 0x88A30000 (some (effect privileged 0 false false))
    ({ mapped privileged with msr := 0x8000000000001012 }.setGpr 3 0x10045670)) fun t => t.readDw 0x100B328) =
    some 0x02000112 := by decide

/-! ### What a step meets -/

/-- R587, R581: PMC1 counts Branches by its selector's code, PMC5 and PMC6 the instruction and the step. -/
theorem test_counting : let s := tracing 0x8000000000001002 false
    (after (step (placed 0x48000000
      { s with cfg := { s.cfg with pmEvents := [⟨0, 7, .branch, true⟩] }, pm := { s.pm with mmcr0 := 0, mmcr1 := 0x07000000 } }
      (effect s 0x4000 false false))) fun t => (t.pm.pmc[0], t.pm.pmc[1], t.pm.pmc[4], t.pm.pmc[5])) = some (1, 0, 1, 1) := by
  decide
/-- R411: `stq` ends the reservation on its granule only. -/
theorem test_stq_reservation : let s := { hypervisor with bookI := { hypervisor.bookI with reservation := some 0x1000 } }
    (after (run 0xF8C30002 (s.setGpr 3 0x1040)) fun t => t.bookI.reservation) = some none
      ∧ (after (run 0xF8C30002 (s.setGpr 3 0x1080)) fun t => t.bookI.reservation) = some (some 0x1000) := by decide
/-- R7: another processor's store is seen by the fetch of the same step. -/
theorem test_foreign_store : (after (step { hypervisor with run := { hypervisor.run with inputs :=
    [{ Input.quiet with stores := [(0x100, 0x7C), (0x101, 0x60), (0x103, 0xA6)] }] } }) fun t => t.readGpr 3) =
    some hypervisor.msr := by decide
/-- R631 note 13: another mapping for an ESID that is still mapped. -/
theorem test_slbmte_remapped : refusal (run 0x7CA03324 (((mapped privileged).setGpr 5 0x124400).setGpr 6 0x18000004)) =
    some .slbRemapped := by decide
/-- R171: `lbz` reads, as Caching Inhibited, the page that it is fetched from. -/
theorem test_attributes_differ : refusal (step (placed 0x88A30000 ({ hypervisor with
      msr := 0x9000000000001012, slb := hypervisor.slb.set 1 ⟨1, true, 0x123, false, true, false, false, false⟩,
      tlb := [⟨0x1230000, false, 0x22, 0x2000⟩] }.setGpr 3 0x10000120) (effect hypervisor 0 false false))) =
    some .attributesDiffer := by decide

/-! ### States that meet the hypotheses of the statements -/

/-- `mtmsrd r3,1` stands where the next step fetches, in hypervisor state with SE=1. -/
def traced : State := { hypervisor with msr := 0x9000000000001402 }.withFetchWord 32 0x7C610164

theorem witness_decoded_word : decode 0x7C6802A7 = .ok (.mfspr 3 8) := rfl
theorem witness_row : (0x44000FE3 : Half) &&& (Instr.sc false).rowMask = (Instr.sc false).rowMatch := by decide
theorem witness_ready : (hypervisor.withFetchWord 32 0x44000002).ready := by
  unfold State.ready
  decide
theorem witness_fetch : ∃ t, (hypervisor.withFetchWord 32 0x44000002).present.fetch = .ok 0x44000002 t :=
  ⟨(hypervisor.withFetchWord 32 0x44000002).present, by decide⟩
theorem witness_step_executes : ∃ v, exec (.sc false) (hypervisor.withFetchWord 32 0x44000002).present = .next v := ⟨_, rfl⟩
theorem witness_foreign_word : (hypervisor.withFetchWord 32 0x7C632214).present.fetch =
      .ok 0x7C632214 (hypervisor.withFetchWord 32 0x7C632214).present
    ∧ decode 0x7C632214 = .error .extendedOpcode ∧ decodeForeign 0x7C632214 = none := ⟨by decide, rfl, rfl⟩
theorem witness_foreign_word_ready : (hypervisor.withFetchWord 32 0x7C632214).ready := by
  unfold State.ready
  decide
/-- The call at 0x100 conflicts with no other access. -/
theorem witness_no_conflict : let s := (hypervisor.withFetchWord 32 0x44000002).present
    (after (exec (.sc false) s) fun v => (attributesDiffer s v, v.run.trapped)) = some (false, true) := by decide
/-- The call leaves LPCR[RMI] as R158 requires; `mtspr` LPCR with data translation on does not. -/
theorem witness_rmi : (after (exec (.sc false) (hypervisor.withFetchWord 32 0x44000002).present) State.rmiProper) = some true
    ∧ (after (exec (.mtspr 318 3) ({ hypervisor with msr := 0x9000000000001012 }.setGpr 3 2)) State.rmiProper) = some false := by
  decide
theorem witness_fetch_real_mode : ir hypervisor.msr = false ∧ hv hypervisor.msr = true ∧ le hypervisor.msr = false
    ∧ absentHit hypervisor.cfg 0x100 4 = false ∧ (hypervisor.cia.extractLsb' 0 62).toNat < 2 ^ hypervisor.cfg.realBits := by
  decide
theorem witness_reserved_zero : State.reset.ReservedZero := by
  constructor <;> decide
theorem witness_invariant : State.reset.Inv where
  mem := rfl
  nia := rfl
  problem := by decide
  slb := rfl
  reserved := witness_reserved_zero
theorem witness_invariant_step : (after (step State.reset) fun t => t.nia) = some 0x700 := by decide
theorem witness_sets_pr : (after (exec (.mtmsrd 3 false) ((identity { privileged with nia := 0x2000 }).setGpr 3 0x8000000000004000))
    fun t => pr t.msr) = some true ∧ pr privileged.msr = false := by decide
theorem witness_alters_me : (after (exec .rfid hypervisor) fun t => me t.msr) = some false ∧ me hypervisor.msr = true := by decide
theorem witness_machine_check_alters_me : (after (exec (.lq 4 0 3)
    { hypervisor with cfg := { hypervisor.cfg with absent := [⟨0, 16⟩] } }) fun t => (me t.msr, t.nia)) =
    some (false, 0x200) := by decide
theorem witness_problem_ok : problemOk State.reset.msr = true ∧ (after (step State.reset) fun t => t.nia) = some 0x700 := by
  decide
theorem witness_raises_hv : hv privileged.msr = false
    ∧ (after (exec (.sc true) privileged) fun t => hv t.msr) = some true := by decide
theorem witness_lowers_hv : hv hypervisor.msr = true ∧ (after (exec .rfid hypervisor) fun t => hv t.msr) = some false := by
  decide
theorem witness_step_raises_hv : hv privileged.msr = false
    ∧ (after (step (privileged.withFetchWord 32 0x44000022)) fun t => hv t.msr) = some true := by decide
theorem witness_step_lowers_hv : hv hypervisor.msr = true
    ∧ (after (step (hypervisor.withFetchWord 32 0x4C000224)) fun t => hv t.msr) = some false := by decide
theorem witness_problem_state : problem.problem = true := by decide
theorem witness_supervisor_state : privileged.supervisor = true
    ∧ (after (exec (.mfmsr 3) privileged) fun t => t.nia) = some 0x104 := by decide
theorem witness_privileged_instruction : (Instr.mfmsr 3).isPrivileged = true ∧ (Instr.mfmsr 3).isProvided problem.cfg = true
    ∧ problem.problem = true := by decide
theorem witness_hypervisor_instruction : (Instr.tlbsync).isHypervisor = true ∧ (Instr.tlbsync).isProvided privileged.cfg = true
    ∧ privileged.hypervisor = false := by decide
theorem witness_absent_instruction : (Instr.tlbia).isProvided { Params.default with hasTlb := false } = false := by decide
/-- Each column of R66, at the first and the last of its numbers; 286 and 0 stand between and before them. -/
theorem witness_spr_columns : problem.problem = true ∧ privileged.supervisor = true ∧ privileged.cfg.hasEar = true
    ∧ privileged.cfg.hasPmm = true ∧ (after (exec (.mtspr 286 3) problem) fun t => t.nia) = some 0x700
    ∧ (after (exec (.mtspr 0 3) problem) fun t => t.spr.srr1) = some 0x800000000008D032
    ∧ (after (exec (.mfspr 3 16) problem) fun t => t.spr.srr1) = some 0x800000000004D032
    ∧ (after (exec (.mtspr 798 3) problem) fun t => t.spr.srr1) = some 0x800000000004D032
    ∧ (after (exec (.mfspr 3 1023) problem) fun t => t.spr.srr1) = some 0x800000000004D032
    ∧ (after (exec (.mfspr 3 319) privileged) fun t => t.nia) = some 0x700 := by decide
theorem witness_spr_alternative : let s := { problem with cfg := { problem.cfg with badSprPolicy := .alternative } }
    s.problem = true ∧ refusal (exec (.mtspr 0 3) s) = some .undefinedSpr
      ∧ (after (exec (.mtspr 16 3) s) fun t => t.nia) = some 0x700 := by decide
theorem witness_spr_policies : refusal (exec (.mtspr 287 3)
      { hypervisor with cfg := { hypervisor.cfg with badSprPolicy := .alternative } }) = some .undefinedSpr
    ∧ (after (exec (.mfspr 3 304) { privileged with cfg := { privileged.cfg with hvPolicy := .noop } }) fun t =>
        (t.nia, t.readGpr 3)) = some (0x104, 0) := by decide

/-- The environment presents a System Reset and nothing else. -/
def presents (k : ResetKind) : Input := { Input.quiet with sysReset := some k }

theorem witness_system_reset : ∃ s : State, s.run.inputs = presents (.other true) :: []
    ∧ (presents (.other true)).sysReset = some (.other true) ∧ s.checkstop = false
    ∧ (presents (.other true)).machineCheck = none ∧ s.pend.machineCheck = none :=
  ⟨{ State.reset with run := { State.reset.run with inputs := [presents (.other true)] } }, rfl, rfl, rfl, rfl, rfl⟩
theorem witness_power_on : ∃ s : State, s.run.inputs = presents .powerOn :: [] ∧ (presents .powerOn).sysReset = some .powerOn
    ∧ (presents .powerOn).stores = [] ∧ s.cfg.powerOnStorage = false :=
  ⟨{ State.reset with run := { State.reset.run with inputs := [presents .powerOn] } }, rfl, rfl, rfl, rfl⟩

/-- A Machine Check exception is pending. -/
def checking (s : State) : State := { s with pend := { s.pend with machineCheck := some true } }

theorem witness_machine_check : (checking hypervisor).run.inputs = [] ∧ (checking hypervisor).pend.sysReset = none
    ∧ (checking hypervisor).checkstop = false ∧ (checking hypervisor).pend.machineCheck = some true
    ∧ me (checking hypervisor).msr = true := by decide
theorem witness_machine_check_disabled : (checking State.reset).run.inputs = [] ∧ (checking State.reset).pend.sysReset = none
    ∧ (checking State.reset).checkstop = false ∧ (checking State.reset).pend.machineCheck = some true
    ∧ me (checking State.reset).msr = false := by decide

theorem witness_fetch_absent : let s := { hypervisor with cfg := { hypervisor.cfg with absent := [⟨0, 0x1000⟩] } }
    s.path (ir s.msr) s.cia = .real 0x100 ∧ absentHit s.cfg 0x100 4 = true ∧ me s.msr = true := by decide

/-- `lq` and `stq` at EA 0x1020 in real addressing mode, where storage ends at 0x1000. -/
theorem witness_operand_absent : let s := { hypervisor.setGpr 3 0x1000 with
      cfg := { hypervisor.cfg with absent := [⟨0x1000, 0x1000⟩] } }
    s.cfg.hasLqstq = true ∧ s.problem = false ∧ (4 : Reg).getLsbD 0 = false ∧ (4 : Reg) ≠ 3
      ∧ absentHit s.cfg 0x1020 16 = true ∧ lqEa s 2 3 &&& 15 = 0 ∧ stqEa s 8 3 &&& 15 = 0
      ∧ s.path (dr s.msr) (lqEa s 2 3) = .real 0x1020 ∧ (s.cfg.hasRmsc && hv s.msr && rmi s.spr.lpcr) = false
      ∧ (after (exec (.lq 4 2 3) s) fun t => t.nia) = some 0x200 := by decide

/-- In Checkstop state. -/
def stopped : State := { State.reset with checkstop := true }

theorem witness_checkstop : stopped.checkstop = true ∧ stopped.present.pend.sysReset = none := by decide
theorem witness_checkstop_left :
    (after (step { stopped with pend := { stopped.pend with sysReset := some (.other true) } }) fun t => t.checkstop) =
      some false := by decide

/-- A Decrementer exception exists and is enabled. -/
def decrementer : State :=
  { privileged with msr := 0x8000000000009002, time := { privileged.time with dec := 0xFFFFFFFF } }

theorem witness_maskable : decrementer.undisturbed ∧ decrementer.pendingInterrupts ≠ [] := by
  unfold State.undisturbed
  decide
theorem witness_hdec : IntKind.hypDecrementer ∈ State.pendingInterrupts { privileged with
    time := { privileged.time with hdec := 0x80000000 }, spr := { privileged.spr with lpcr := 1 } } := by decide
theorem witness_external : IntKind.external ∈ State.pendingInterrupts { decrementer with
    pend := { decrementer.pend with external := true } } := by decide
theorem witness_perf_monitor : IntKind.perfMonitor ∈ State.pendingInterrupts { decrementer with
    pm := { decrementer.pm with mmcr0 := 0x80 } } := by decide
theorem witness_trace : traced.ready ∧ se traced.msr = true ∧ traced.cfg.hasTraceExt = false
    ∧ Instr.mtmsrd 3 true ≠ .rfid ∧ Instr.mtmsrd 3 true ≠ .hrfid
    ∧ (after (exec (.mtmsrd 3 true) traced.present) fun v =>
        (v.run.trapped, (executedInstr (.mtmsrd 3 true)).changesFe && fpEnabled v.msr v.bookI.fpscr)) =
      some (false, false) := by
  unfold State.ready
  decide
theorem witness_trace_fetch : traced.present.fetch = .ok 0x7C610164 traced.present ∧ decode 0x7C610164 = .ok (.mtmsrd 3 true) :=
  ⟨by decide, rfl⟩

theorem witness_trace_no_conflict : (after (exec (.mtmsrd 3 true) traced.present) fun v =>
    (attributesDiffer traced.present v, v.rmiProper)) = some (false, true) := by decide

/-- A taken Branch at 0x3000 with MSR[BE]=1. -/
def branching : State := placed 0x48000000 (tracing 0x8000000000001202 false) (effect privileged 0x4000 false true)

theorem witness_branch_ready : branching.ready := by
  unfold State.ready
  decide
theorem witness_branch : branching.present.fetch = .ok 0x48000000 branching.present ∧ decode 0x48000000 = .error .primaryOpcode
    ∧ decodeForeign 0x48000000 = none ∧ decodeOutside 0x48000000 = .branch
    ∧ branching.input.base = some (.runs (effect privileged 0x4000 false true))
    ∧ attributesDiffer branching.present branching.present = false ∧ (se branching.msr || be branching.msr) = true :=
  ⟨by decide, rfl, rfl, rfl, rfl, by decide, by decide⟩

/-- `mtmsrd r3` turns FE0 on with FPSCR[FEX]=1. -/
def fpEnabling : State := ({ hypervisor with bookI := { hypervisor.bookI with fpscr := 0x40000000 } }.setGpr 3
  0x9000000000001802).withFetchWord 32 0x7C600164

theorem witness_fp_enabled : fpEnabling.ready ∧ fpEnabling.present.fetch = .ok 0x7C600164 fpEnabling.present
    ∧ (after (exec (.mtmsrd 3 false) fpEnabling.present) fun v => (v.run.trapped, attributesDiffer fpEnabling.present v, v.rmiProper,
        (executedInstr (.mtmsrd 3 false)).changesFe && ((bit v.msr 52 || bit v.msr 55) && hbit v.bookI.fpscr 1))) =
      some (false, false, true, true) := by
  unfold State.ready
  decide

/-- Translation on, no SLB entry. -/
def unmapped : State := { privileged with msr := 0x8000000000001032, nia := 0x10045100 }

/-- Translation on, fixture F. -/
def translating : State := { mapped privileged with msr := 0x8000000000001032, nia := 0x10045100 }

/-- Two entries translate ESID 1. -/
def duplicated : State :=
  { translating with slb := translating.slb.set 4 ⟨1, true, 0x124, false, true, false, false, false⟩ }

/-- The entry of SLB entry 3 and the TLB entry of fixture F. -/
def segment : SlbEntry := ⟨1, true, 0x123, false, true, false, false, false⟩
def page : TlbEntry := ⟨0x1230045, false, 0x02000012, 0x100B320⟩

theorem witness_segment_fault_fetch : ir unmapped.msr = true ∧ le unmapped.msr = false ∧ unmapped.slbMatches unmapped.cia = [] := by
  decide
theorem witness_segment_fault_data : dr unmapped.msr = true ∧ le unmapped.msr = false ∧ unmapped.slbMatches 0x10045678 = [] := by
  decide
theorem witness_duplicate_segment : dr duplicated.msr = true ∧ le duplicated.msr = false
    ∧ 2 ≤ (duplicated.slbMatches 0x10045678).length := by decide
theorem witness_duplicate_segment_fetch : ir duplicated.msr = true ∧ le duplicated.msr = false
    ∧ 2 ≤ (duplicated.slbMatches duplicated.cia).length := by decide
theorem witness_page_fault_fetch : let s : State := { translating with nia := 0x10046000 }
    ir s.msr = true ∧ le s.msr = false ∧ s.slbMatches s.cia = [segment] ∧ (segment.l = true → s.cfg.largePages = true)
      ∧ s.lookup segment.l (virtualAddress segment s.cia) = .miss := by decide
theorem witness_page_fault_data : dr translating.msr = true ∧ le translating.msr = false
    ∧ translating.slbMatches 0x10046000 = [segment] ∧ (segment.l = true → translating.cfg.largePages = true)
    ∧ translating.lookup segment.l (virtualAddress segment 0x10046000) = .miss := by decide

/-- Fixture F with another PTE doubleword 1, held in the TLB. -/
def inTlb (dw1 : Word) : State := { translating with tlb := [{ page with dw1 := dw1 }] }

/-- The N bit of the page stops a fetch. -/
theorem witness_no_execute : (inTlb 0x02000016).path (ir (inTlb 0x02000016).msr) (inTlb 0x02000016).cia =
      .mapped segment { page with dw1 := 0x02000016 } true
    ∧ (bit 0x02000016 57 && bit 0x02000016 58) = false ∧ ((segment.n || bit 0x02000016 61) || bit 0x02000016 60) = true := by
  decide
/-- Caching Inhibited storage stops `lq`. -/
theorem witness_data_storage : (inTlb 0x02000032).path (dr (inTlb 0x02000032).msr) 0x10045670 =
      .mapped segment { page with dw1 := 0x02000032 } true
    ∧ (bit 0x02000032 57 && bit 0x02000032 58) = false ∧ (bit 0x02000032 57 || bit 0x02000032 58) = true := by decide
/-- In real addressing mode with LPES1=0 there is no access. -/
theorem witness_data_storage_real : dr State.reset.msr = false ∧ le State.reset.msr = false ∧ State.reset.cfg.hasRmsc = false
    ∧ State.path { State.reset with msr := 0x8000000000000000 } false 0x100 = .denied := by decide
theorem witness_data_storage_inhibited : let s := { hypervisor with spr := { hypervisor.spr with lpcr := 2 } }
    dr s.msr = false ∧ le s.msr = false ∧ s.cfg.hasRmsc = false ∧ (hv s.msr && rmi s.spr.lpcr) = true
      ∧ (AccessKind.reserve false).noWI = true ∧ (AccessKind.reserve false).rmscOnly = false
      ∧ (AccessKind.quad false).noWI = true ∧ (AccessKind.quad false).rmscOnly = true := by decide
/-- A supported PRIVM, and the match it gives for a store of fixture F. -/
theorem witness_breakpoint : let s := { translating with spr := { translating.spr with dabr := 0x10045676, dabrx := 2 } }
    AccessKind.write.dabr = .applies ∧ AccessKind.write.dac = .applies ∧ field s.spr.dabrx 61 3 ≠ 5
      ∧ field s.spr.dabrx 61 3 ≠ 6 ∧ s.dabrMatch .write 0x10045670 16 = true ∧ s.dabrMatch .write 0x10045678 8 = false := by
  decide
theorem witness_data_storage_real_address : hypervisor.path false 0x1000 = .real 0x1000 ∧ dr hypervisor.msr = false := by decide

/-- R498, R474: `lmw r29,0(r3)` from a Caching Inhibited page into one without an entry. -/
theorem test_lmw_inhibited_first : (after (outside 0xBBA30000 ((inTlb 0x02000032).setGpr 3 0x10045FFC)) fun t =>
    (t.spr.dar, t.nia)) = some (0x10045FFC, 0x600) := by decide
/-- R171: `dcbz 0,r3` of a page with W = I = 1. -/
theorem test_dcbz_unsupported : refusal (outside 0x7C001FEC ((inTlb 0x02000072).setGpr 3 0x10045670)) =
    some .writeThroughInhibited := by decide
/-- R483: `frsqrtes f1,f1` and `frin f1,f1` with MSR[FP]=0. -/
theorem test_fp_unavailable_optional : (after (outside 0xEC200834 privileged) fun t => t.nia) = some 0x800
    ∧ (after (outside 0xFC200B10 privileged) fun t => t.nia) = some 0x800 := by decide
/-- R158: software has left LPCR[RMI] at 1 with data address translation enabled. -/
theorem test_rmi_translating : refusal (step { hypervisor with msr := 0x9000000000001012, spr := { hypervisor.spr with lpcr := 2 } }) =
    some .realModeInhibited := by decide
/-- R36: an Effective Address Overflow of `lbz r5,0(r3)`, with translation on and with it off. -/
theorem test_overflow : let s := (inTlb 0x02000012).setGpr 3 0x10045670
    let t := { s with run := { s.run with overflow := true } }
    let w : Half := 0x88A30000
    (after (execOutside (decodeOutside w) w (some (effect t 0 false false)) t) fun u => (u.spr.dar, u.nia)) =
        some (0x10045670, 0x300)
      ∧ (after (execOutside (decodeOutside w) w (some (effect t 0 false false)) { t with msr := 0x9000000000001002 }) fun u =>
          u.nia) = some 0x10045104 := by decide
/-- R374: virtual addresses of 65 bits leave RT[0:14] zeros. -/
theorem test_slbmfev_narrow : let s := mapped { privileged with cfg := { privileged.cfg with virtualBits := 65 } }
    (after (run 0x7D405EA6 ({ s with slb := s.slb.set 3 ⟨1, true, 0xF800000000123, false, true, false, false, false⟩ }.setGpr 11 3))
      fun t => t.readGpr 10) = some 0x123400 := by decide
/-- R632: `slbmte` of another segment, after which another processor stores to the Page Table Entry that maps the next
instruction: that store may move it. -/
theorem test_store_after_slbmte : let s := (({ translating with nia := 0x10045100 }.setGpr 5 0x222400).setGpr 6 0x28000004)
    let first := s.withFetchWord 32 0x7CA03324
    (match step { first with run := { first.run with inputs := [Input.quiet, { Input.quiet with
          stores := [(0x100B32C, 0x03)] }, Input.quiet] } } with
      | .next t => refusal (step (t.withFetchWord 32 0x7C6000A6))
      | _ => some .implicitBranch) = none := by decide
/-- R597: a step under single-step tracing leaves SIAR and SDAR undefined until a Trace interrupt sets them. -/
theorem test_tracing_leaves_samples : let s := tracing 0x8000000000001402 true
    (after (step (s.withFetchWord 32 0x44000002)) fun t => (t.nia, t.run.siarStale, t.run.sdarStale)) =
      some (0xC00, true, true) := by decide
/-- R340: LPIDR takes the low-order word, whatever q is. -/
theorem test_mtspr_lpidr : (after (run 0x7C7F4BA6 (hypervisor.setGpr 3 0x180000007)) fun t => t.spr.lpidr) = some 0x80000007 := by decide
/-- R412: `lq` in hypervisor real mode with LPCR[RMI]=1, without Real Mode Storage Control and with it. -/
theorem test_lq_rmi : let s := { hypervisor with spr := { hypervisor.spr with lpcr := 2 } }.setGpr 3 0x1000
    (after (run 0xE0830020 s) fun t => t.nia) = some 0x104
      ∧ (after (run 0xE0830020 { s with cfg := { s.cfg with hasRmsc := true } }) fun t => t.nia) = some 0x300 := by decide
/-- R158: `mtspr` LPCR sets RMI with data translation on, under single-step tracing. -/
theorem test_rmi_traced : refusal (step ({ hypervisor with msr := 0x9000000000001412 }.setGpr 3 2 |>.withFetchWord 32 0x7C7E4BA6)) =
    some .realModeInhibited := by decide
/-- R632: a store has moved the page of fixture F in its Page Table Entry; what a later load puts into the TLB for it is not in the
context before the store, in which a search finds the old entry, so that a fetch from the page would be an implicit branch. -/
theorem test_fill_after_alteration : let before : FetchContext := ⟨none, none, [], [(0x100B32C, 0x02)]⟩
    let s : State := { translating with nia := 0x10045100 }.writeDw 0x100B328 0x03000012
    let moved : TlbEntry := { page with dw1 := 0x03000012 }
    (before.filled s [moved]).tlb = []
      ∧ State.settled { s with tlb := [moved], run := { s.run with contexts := [before.filled s [moved]] } } = false
      ∧ (before.filled translating [page]).tlb = [page] := by decide

/-- `lwarx` and `stwcx.`. -/
def lwarx : StorageWord := ⟨.loadReserve 4, .x, false, false⟩
def stwcx : StorageWord := ⟨.storeConditional 4, .x, false, false⟩

theorem witness_fp_word : fp privileged.msr = false ∧ (StorageKind.fpLoad 4).traits.float = true
    ∧ decodeOutside 0xFC21082A = .float ∧ decodeOutside 0xC0230000 = .storage ⟨.fpLoad 4, .d, false, false⟩ :=
  ⟨by decide, rfl, rfl, rfl⟩
theorem witness_trap_word : (effect privileged 0 true false).traps = true ∧ decodeOutside 0x7FE00008 = .trap := ⟨rfl, rfl⟩
/-- `lswx r5,r6,r0` of eight bytes loads RA. -/
theorem witness_lswx : let s := { privileged with bookI := { privileged.bookI with xer := 8 } }
    let w : Half := 0x7CA6042A
    decodeOutside w = .storage ⟨.loadString true, .x, false, false⟩
      ∧ (w.extractLsb' 16 5 - w.extractLsb' 21 5).toNat < (s.bookI.xer.toNat % 128 + 3) / 4 := ⟨rfl, by decide⟩
theorem witness_reserve_unaligned : decodeOutside 0x7CA02028 = .storage lwarx ∧ decodeOutside 0x7CA0212D = .storage stwcx
    ∧ (lwarx.ea 0x7CA02028 (privileged.setGpr 4 0x1002)).toNat % 4 ≠ 0 := ⟨rfl, rfl, by decide⟩
/-- The page of fixture F is Caching Inhibited. -/
theorem witness_reserve_inhibited : let s := (inTlb 0x02000032).setGpr 4 0x10045670
    (lwarx.ea 0x7CA02028 s).toNat % 4 = 0 ∧ s.cfg.stcxFailDsi = true
      ∧ s.path (dr s.msr) (stwcx.ea 0x7CA0212D s) = .mapped segment { page with dw1 := 0x02000032 } true
      ∧ bit 0x02000032 57 ≠ bit 0x02000032 58 := by decide
theorem witness_quad_illegal : hypervisor.cfg.hasLqstq = true ∧ hypervisor.problem = false
    ∧ ((5 : Reg).getLsbD 0 = true ∨ (5 : Reg) = 3) := by decide
theorem witness_quad_unaligned : (4 : Reg).getLsbD 0 = false ∧ (4 : Reg) ≠ 3
    ∧ lqEa (hypervisor.setGpr 3 0x1008) 2 3 &&& 15 ≠ 0 ∧ stqEa (hypervisor.setGpr 3 0x1008) 4 3 &&& 15 ≠ 0 := by decide
/-- An Effective Address Overflow of `lq r4,0(r3)` and `stq r4,0(r3)`. -/
theorem witness_quad_overflow : let s : State := { inTlb 0x02000012 with run := { (inTlb 0x02000012).run with overflow := true } }
    s.cfg.hasLqstq = true ∧ s.problem = false ∧ (4 : Reg).getLsbD 0 = false ∧ (4 : Reg) ≠ 3
      ∧ dr s.msr = true ∧ s.run.overflow = true ∧ lqEa s 0 3 &&& 15 = 0 ∧ stqEa s 0 3 &&& 15 = 0 := by decide
theorem witness_reserve_overflow : let s := (inTlb 0x02000012).setGpr 4 0x10045670
    (lwarx.ea 0x7CA02028 s).toNat % 4 = 0 ∧ (stwcx.ea 0x7CA0212D s).toNat % 4 = 0
      ∧ (dr s.msr && ({ s.run with overflow := true } : Run).overflow) = true := by decide
theorem witness_hypervisor : hypervisor.hypervisor = true ∧ hypervisor.problem = false := by decide

/-- The test of the model decides the condition that the statements name. -/
theorem no_implicit {s t : State} (h : implicitBranch s t = false) : s.noImplicitBranch t := implicitBranch_eq_false.mp h

theorem witness_mtmsrd_wrap : let s : State := { (privileged.setGpr 3 2) with nia := 0xFFFFFFFC }
    s.problem = false ∧ sf (mtmsrdMsr s.cfg s.msr (s.readGpr 3)) ≠ sf s.msr ∧ s.cia = 0xFFFFFFFC
      ∧ s.cfg.sfWrapFree = false ∧ ({ s.cfg with sfWrapFree := true } : Params).sfWrapFree = true := by decide
theorem witness_mtmsrd : let s := privileged.setGpr 3 0x8000000000000002
    let m := mtmsrdMsr s.cfg s.msr (s.readGpr 3)
    s.problem = false ∧ (sf m ≠ sf s.msr → s.cia ≠ 0xFFFFFFFC) ∧ (sf m = false → s.cia.toNat < 2 ^ 32)
      ∧ s.noImplicitBranch { s with msr := m, nia := s.cia + 4 } :=
  ⟨by decide, by decide, by decide, no_implicit (by decide)⟩
theorem witness_mtmsr : let s := privileged.setGpr 3 2
    s.cfg.hasMtmsr = true ∧ s.problem = false
      ∧ s.noImplicitBranch { s with msr := mtmsrMsr s.cfg s.msr (s.readGpr 3), nia := s.cia + 4 } :=
  ⟨by decide, by decide, no_implicit (by decide)⟩
theorem witness_mtspr_ear : hypervisor.hypervisor = true ∧ hypervisor.cfg.hasEar = true ∧ monitorQuiet hypervisor.pm.mmcr0 := by
  unfold monitorQuiet
  decide
theorem witness_mtspr_sdr1 : let t : State := { hypervisor with nia := hypervisor.cia + 4,
                                                                spr := { hypervisor.spr with sdr1 := 0x1000000 } }
    ((ir hypervisor.msr || dr hypervisor.msr) = false ∨ t.spr.sdr1 = hypervisor.spr.sdr1) ∧ hypervisor.noImplicitBranch t :=
  ⟨by decide, no_implicit (by decide)⟩
theorem witness_mtspr_rmor : let t : State := { hypervisor with nia := hypervisor.cia + 4,
                                                                spr := { hypervisor.spr with rmor := 0x2000 } }
    (0x2000 : Word).toNat % 2 ^ rmorBits hypervisor.cfg = 0 ∧ hypervisor.noImplicitBranch t :=
  ⟨by decide, no_implicit (by decide)⟩
/-- An effective address with EA[0]=1 does not use HRMOR. -/
theorem witness_mtspr_hrmor : let s : State := { hypervisor with nia := 0x8000000000002000 }
    let t : State := { s with nia := s.cia + 4, spr := { s.spr with hrmor := 0x4000000 } }
    (0x4000000 : Word).toNat % 2 ^ s.cfg.hrmorBits = 0 ∧ (0x4000000 : Word).toNat % 2 ^ 62 < 2 ^ s.cfg.realBits ∧ s.noImplicitBranch t :=
  ⟨by decide, by decide, no_implicit (by decide)⟩
theorem witness_mtspr_lpcr : let t : State := { hypervisor with nia := hypervisor.cia + 4,
                                                                spr := { hypervisor.spr with lpcr := 0xC } }
    field (0xC : Word) 60 2 ≠ 2 ∧ hypervisor.noImplicitBranch t :=
  ⟨by decide, no_implicit (by decide)⟩
theorem witness_mtspr_monitor : privileged.problem = false ∧ privileged.cfg.hasPmm = true ∧ monitorQuiet privileged.pm.mmcr0
    ∧ monitorQuiet 0x80000000 := by
  unfold monitorQuiet
  decide
theorem witness_alert : let s := { privileged with pm := { privileged.pm with mmcr0 := 0x4008000 } }.setGpr 3 0x80000000
    s.problem = false ∧ s.cfg.hasPmm = true ∧ bit s.pm.mmcr0 37 = true ∧ bit s.pm.mmcr0 48 = true ∧ bit s.pm.mmcr0 50 = false
      ∧ bit s.pm.mmcr0 38 = false ∧ bit (s.readGpr 3) 32 = true := by decide
theorem witness_counts : privileged.cfg.hasPmm = true ∧ ({ privileged.cfg with hasPmm := false } : Params).hasPmm = false := by
  decide
/-- A rising edge of Time Base bit 63, with TBEE and PMAE. -/
theorem witness_time_base_event : let s := { privileged with pm := { privileged.pm with mmcr0 := 0x4400000 } }
    s.cfg.hasPmm = true ∧ s.cfg.tbEnabled = true ∧ bit s.pm.mmcr0 50 = false ∧ bit s.pm.mmcr0 48 = false
      ∧ bit s.pm.mmcr0 49 = false ∧ (bit s.pm.mmcr0 41 && !bit s.time.tb 63 && bit (s.time.tb + 1) 63 && bit s.pm.mmcr0 37) = true
      ∧ s.tick.pm.mmcr0 = 0x400080 := by decide
theorem witness_mfspr_samples : privileged.cfg.hasPmm = true ∧ privileged.sampleUndefined = false
    ∧ State.sampleUndefined { privileged with pm := { privileged.pm with mmcr0 := 0x4000000 } } = true := by decide
theorem witness_mtspr_then_mfspr_monitor : hypervisor.cfg.hasPmm = true ∧ monitorQuiet hypervisor.pm.mmcr0
    ∧ hypervisor.sampleUndefined = false ∧ hypervisor.cfg.hasEar = true
    ∧ (after (exec (.mtspr 796 3) hypervisor) fun t => t.nia) = some 0x104 := by
  unfold monitorQuiet
  decide
theorem witness_mtspr_then_mfspr : hypervisor.hypervisor = true
    ∧ (after (exec (.mtspr 304 3) hypervisor) fun t => t.nia) = some 0x104 := by decide
theorem witness_slbie : let s := (mapped privileged).setGpr 4 0x10000000
    s.problem = false ∧ s.readGpr 4 &&& 0x7FFFFFF = 0 ∧ (sf s.msr = true ∨ (s.readGpr 4).extractLsb' 32 32 = 0)
      ∧ (∀ c, s.classOf 1 = some c → c = (s.readGpr 4).getLsbD 27) ∧ s.noImplicitBranch (s.advance.invalidateEsid 1) :=
  ⟨by decide, by decide, by decide, by decide, no_implicit (by decide)⟩
theorem witness_slbia : privileged.problem = false ∧ privileged.noImplicitBranch privileged.advance.invalidateSlb :=
  ⟨by decide, no_implicit (by decide)⟩
theorem witness_slbmte : let s := (privileged.setGpr 5 0x123400).setGpr 6 0x18000003
    s.problem = false ∧ 3 < s.slb.length ∧ s.readGpr 5 &&& 0x7F = 0 ∧ (s.readGpr 5).toNat < 2 ^ (s.cfg.virtualBits - 16)
      ∧ s.readGpr 6 &&& 0x7FFF000 = 0 ∧ ((s.readGpr 6).extractLsb' 0 12).toNat = 3 ∧ (s.readGpr 6).getLsbD 27 = true
      ∧ sf s.msr = true ∧ (∀ x, (x ∈ s.slb ∧ x.v = true) ∨ x ∈ s.slbGone → x.esid = 1 → x = segment)
      ∧ s.noImplicitBranch (s.advance.setSlbEntry 3 segment) := by
  refine ⟨by decide, by decide, by decide, by decide, by decide, by decide, by decide, by decide, fun x hx => ?_,
    no_implicit (by decide)⟩
  simp [privileged, State.reset, SlbEntry.zero, State.setGpr] at hx
  obtain ⟨⟨-, rfl⟩, h⟩ := hx
  cases h
theorem witness_slb_entries : privileged.problem = false ∧ (privileged.setGpr 11 3).readGpr 11 = BitVec.ofNat 64 3
    ∧ ((mapped privileged).slbEntry 3).v = true ∧ (privileged.slbEntry 3).v = false ∧ 3 < (mapped privileged).slb.length := by decide
theorem witness_slbmte_then : let s := ((privileged.setGpr 5 0x123400).setGpr 6 0x18000003).setGpr 11 3
    s.problem = false ∧ (after (exec (.slbmte 5 6) s) fun t => t.readGpr 11) = some (s.readGpr 6 &&& 0xFFF) := by decide
theorem witness_tlbie : let s := twoTlb.setGpr 4 0x1230045000
    s.hypervisor = true ∧ s.cfg.hasTlb = true ∧ sf s.msr = true ∧ s.cfg.hasTlbiel = true ∧ s.cfg.largePageBits ≤ 28 ∧ (s.readGpr 4).toNat < 2 ^ 48
      ∧ s.readGpr 4 &&& 0xFFF = 0 ∧ s.noImplicitBranch (s.advance.invalidateTlb (s.readGpr 4) false) :=
  ⟨by decide, by decide, by decide, by decide, by decide, by decide, by decide, no_implicit (by decide)⟩
theorem witness_tlbia : twoTlb.hypervisor = true ∧ twoTlb.cfg.hasTlbia = true ∧ twoTlb.cfg.hasTlbsync = true
    ∧ twoTlb.noImplicitBranch { twoTlb with nia := twoTlb.cia + 4, tlb := [] } :=
  ⟨by decide, by decide, by decide, no_implicit (by decide)⟩

/-- Base address 0x1000 in GPR 3. -/
def based : State := hypervisor.setGpr 3 0x1000

theorem witness_quad_real : based.cfg.hasLqstq = true ∧ based.realData ∧ based.breakpointsOff
    ∧ (based.cfg.hasRmsc && hv based.msr && rmi based.spr.lpcr) = false ∧ (4 : Reg).getLsbD 0 = false ∧ (4 : Reg) ≠ 3 ∧ lqEa based 2 3 &&& 15 = 0
    ∧ absentHit based.cfg 0x1020 16 = false := by
  unfold State.realData State.breakpointsOff
  decide
/-- Offset real mode, below the limit of 2^28. -/
theorem witness_quad_offset_real : let s := privileged.setGpr 3 0x1000
    s.cfg.hasLqstq = true ∧ s.realData ∧ s.breakpointsOff ∧ (s.cfg.hasRmsc && hv s.msr && rmi s.spr.lpcr) = false ∧ lqEa s 2 3 &&& 15 = 0
      ∧ bit s.spr.lpcr 61 = true ∧ (0x1020 : RealAddr).toNat < 2 ^ s.cfg.rmlsTable[(field s.spr.lpcr 35 3).toNat]!
      ∧ absentHit s.cfg 0x10001020 16 = false := by
  unfold State.realData State.breakpointsOff
  decide
theorem witness_quad_real_store : stqEa based 8 3 &&& 15 = 0 ∧ absentHit based.cfg 0x1020 16 = false
    ∧ based.noImplicitBranch ((based.drawn 3).storeQuad 4 0x1020 0x1020) :=
  ⟨by decide, by decide, no_implicit (by decide)⟩

/-- Base address 0x1004_5670 in GPR 3, fixture F in the TLB, R and C clear. -/
def basedMapped : State := (inTlb 0x02000002).setGpr 3 0x10045670

theorem witness_quad_mapped : let e : TlbEntry := { page with dw1 := 0x02000002 }
    basedMapped.cfg.hasLqstq = true ∧ basedMapped.problem = false ∧ dr basedMapped.msr = true
      ∧ basedMapped.run.overflow = false ∧ basedMapped.breakpointsOff
      ∧ bit e.dw1 54 = false ∧ bit e.dw1 57 = false ∧ bit e.dw1 58 = false ∧ lqEa basedMapped 0 3 &&& 15 = 0
      ∧ basedMapped.path true (lqEa basedMapped 0 3) = .mapped segment e true
      ∧ mayRead segment.ks (e.dw1.extractLsb' 0 2) = true
      ∧ absentHit basedMapped.cfg (e.realAddress basedMapped.cfg (lqEa basedMapped 0 3)) 16 = false
      ∧ recordAbsent basedMapped.cfg e true = false ∧ recordAbsent basedMapped.cfg e false = false := by
  unfold State.breakpointsOff
  decide
theorem witness_quad_mapped_store : let e : TlbEntry := { page with dw1 := 0x02000002 }
    stqEa basedMapped 0 3 &&& 15 = 0 ∧ basedMapped.path true (stqEa basedMapped 0 3) = .mapped segment e true
      ∧ mayWrite segment.ks (e.dw1.extractLsb' 0 2) = true ∧ absentHit basedMapped.cfg 0x2000670 16 = false
      ∧ basedMapped.noImplicitBranch (((basedMapped.drawn 3).record e true true).storeQuad 4 0x2000670 0x10045670) :=
  ⟨by decide, by decide, by decide, by decide, no_implicit (by decide)⟩
theorem witness_stq_then_lq : based.realData ∧ based.run.trapped = false
    ∧ (after (exec (.stq 6 8 3) based) fun t => (t.run.trapped, lqEa t 2 3)) = some (false, stqEa based 8 3)
    ∧ (match exec (.stq 6 8 3) based with
        | .next t => after (exec (.lq 4 2 3) t) fun u => u.run.trapped
        | _ => none) = some false := by
  unfold State.realData
  decide
theorem witness_mtsr : let s := narrow.setGpr 3 0xFFFFFFFFC0123456
    s.cfg.hasBridge = true ∧ s.problem = false ∧ sf s.msr = false ∧ 16 ≤ s.slb.length ∧ (s.readGpr 3).getLsbD 27 = false
      ∧ s.noImplicitBranch (s.advance.setSlbEntry (5 : BitVec 4).toNat ⟨5, true, 0x123456, true, false, false, false, false⟩) :=
  ⟨by decide, by decide, by decide, by decide, by decide, no_implicit (by decide)⟩
theorem witness_mtsrin : ((narrow.setGpr 6 0x5ABCDEF0).readGpr 6).extractLsb' 28 4 = (5 : BitVec 4) := by decide
theorem witness_mfsr : let e : SlbEntry := ⟨5, true, 0x123456, true, false, false, false, false⟩
    narrow.cfg.hasBridge = true ∧ narrow.problem = false ∧ sf narrow.msr = false ∧ 16 ≤ narrow.slb.length
      ∧ e.esid.toNat < 16 ∧ e.vsid.toNat < 2 ^ 27 ∧ e.l = false ∧ e.c = false := by decide
theorem witness_mtsr_then_mfsr : narrow.problem = false ∧ narrow.cfg.hasBridge = true
    ∧ (after (exec (.mtsr 5 3) narrow) fun t => t.nia) = some 0x1004 := by decide
theorem witness_real_mode : hv hypervisor.msr = true ∧ le hypervisor.msr = false ∧ bit 0x8000000000000100 0 = true
    ∧ bit 0x100 0 = false := by decide
theorem witness_real_mode_denied : hv privileged.msr = false ∧ le privileged.msr = false ∧ bit privileged.spr.lpcr 61 = true
    ∧ bit (0 : Word) 61 = false ∧ privileged.cfg.rmlrIgnoreHigh = false
    ∧ 2 ^ privileged.cfg.rmlsTable[(field privileged.spr.lpcr 35 3).toNat]! ≤ (0x10000000 : RealAddr).toNat
    ∧ (0xFFFFFFF : RealAddr).toNat < 2 ^ privileged.cfg.rmlsTable[(field privileged.spr.lpcr 35 3).toNat]! := by decide
theorem witness_real_mode_range : let s := { hypervisor with cfg := { hypervisor.cfg with realBits := 40 } }
    hv s.msr = true ∧ 2 ^ s.cfg.realBits ≤ (0x10000000000 : RealAddr).toNat ∧ (0xFFFFFFFFFF : RealAddr).toNat < 2 ^ s.cfg.realBits
      ∧ s.path false 0x10000000000 = .refuse .realAddressRange := by decide
theorem witness_fetch_denied : let s : State := { State.reset with msr := 0x8000000000000000 }
    ir s.msr = false ∧ le s.msr = false ∧ s.path false s.cia = .denied := by decide
theorem witness_htab_size : htabSize 0 ≤ State.reset.cfg.htabSizeMax ∧ htabSize 28 ≤ 28
    ∧ State.reset.ptegAbsent false 0x1230045678 = false ∧ State.reset.pteMatches false 0x1230045678 = [] := by decide
/-- Fixture F: one entry matches, and it is in proper form. -/
theorem witness_search_hit : (translating.pteMatches false 0x1230045678).map
      (fun t => (t.addr, t.same t, t.proper translating.cfg false)) = [(0x100B320, true, true)]
    ∧ htabSize translating.spr.sdr1 ≤ translating.cfg.htabSizeMax ∧ translating.ptegAbsent false 0x1230045678 = false := by decide
theorem witness_search_cached : (inTlb 2).cfg.hasTlb = true ∧ { page with dw1 := 2 } ∈ (inTlb 2).tlb
    ∧ { page with dw1 := 2 }.vpn = (0x1230045678 : BitVec 80) >>> 12 ∧ (inTlb 2).cfg.largePageBits ≤ 28 := by decide
theorem witness_canonical : Memory.wf (mapped privileged).mem = true := by decide

end Sys2Proof.Tests
end

section
/-! PROOFS. The invariant of the machine (O7): bits under a mask, the MSR, each named operation, each instruction, the step. -/

namespace Sys2Proof.Machine

/-! ### Bits under a mask -/

theorem and_not_eq_zero_iff {w : Nat} {x m : BitVec w} :
    x &&& ~~~m = 0 ↔ ∀ i, x.getLsbD i = true → m.getLsbD i = true := by
  constructor
  · intro h i hx
    have hw := BitVec.lt_of_getLsbD hx
    have hi : (x &&& ~~~m).getLsbD i = false := by simp [h]
    simpa [hx, hw] using hi
  · intro h
    apply BitVec.eq_of_getLsbD_eq
    intro i hi
    have := h i
    cases hx : x.getLsbD i <;> simp_all

theorem masked_and_not {w : Nat} (x m : BitVec w) : (x &&& m) &&& ~~~m = 0 := by
  rw [and_not_eq_zero_iff]
  simp

theorem or_and_not {w : Nat} {x y m : BitVec w} (hx : x &&& ~~~m = 0) (hy : y &&& ~~~m = 0) :
    (x ||| y) &&& ~~~m = 0 := by
  rw [and_not_eq_zero_iff] at *
  intro i h
  rcases (by simpa using h : x.getLsbD i = true ∨ y.getLsbD i = true) with h | h
  · exact hx i h
  · exact hy i h

theorem and_right_and_not {w : Nat} {y m : BitVec w} (x : BitVec w) (hy : y &&& ~~~m = 0) : (x &&& y) &&& ~~~m = 0 := by
  rw [and_not_eq_zero_iff] at *
  intro i h
  exact hy i (by simp_all)

theorem and_left_and_not {w : Nat} {x m : BitVec w} (y : BitVec w) (hx : x &&& ~~~m = 0) : (x &&& y) &&& ~~~m = 0 := by
  rw [BitVec.and_comm x]
  exact and_right_and_not y hx

/-- Inserting bits that the register stores keeps its reserved bits 0. -/
theorem insertBits_and_not {d k m : Word} (src : Word) (hd : d &&& ~~~m = 0) (hk : k &&& ~~~m = 0) :
    insertBits d src k &&& ~~~m = 0 :=
  or_and_not (and_left_and_not _ hd) (and_right_and_not _ hk)

theorem setBit_and_not {x m : Word} {i : Nat} (b : Bool) (hx : x &&& ~~~m = 0) (hi : mask i i &&& ~~~m = 0) :
    setBit x i b &&& ~~~m = 0 :=
  insertBits_and_not _ hx hi

theorem bitIf_and_not {i : Nat} {b : Bool} {m : Word} (h : b = true → mask i i &&& ~~~m = 0) :
    bitIf i b &&& ~~~m = 0 := by
  cases b
  · exact BitVec.zero_and
  · exact h rfl

/-! ### Single bits, in the manual's numbering -/

theorem bit_or (x y : Word) (i : Nat) : bit (x ||| y) i = (bit x i || bit y i) := by simp [bit]

theorem bit_and (x y : Word) (i : Nat) : bit (x &&& y) i = (bit x i && bit y i) := by simp [bit]

theorem bit_mask_self {i j : Nat} (hi : i < 64) (hj : j < 64) : bit (mask i i) j = decide (i = j) := by
  have hone : mask i i = 1#64 <<< (63 - i) := by simp [mask]
  rw [bit, hone, ← BitVec.twoPow_eq, BitVec.getLsbD_twoPow]
  by_cases h : i = j
  · simp [h, show 63 - j < 64 by omega]
  · simp [h, show 63 - i ≠ 63 - j by omega]

theorem bit_bitIf {i j : Nat} (b : Bool) (hi : i < 64) (hj : j < 64) : bit (bitIf i b) j = (b && decide (i = j)) := by
  cases b
  · simp [bitIf, bit]
  · simpa [bitIf] using bit_mask_self hi hj

theorem bit_insertBits (d src k : Word) {i : Nat} (hi : i < 64) :
    bit (insertBits d src k) i = if bit k i then bit src i else bit d i := by
  simp only [insertBits, bit, BitVec.getLsbD_or, BitVec.getLsbD_and, BitVec.getLsbD_not, show 63 - i < 64 by omega,
    decide_true, Bool.true_and]
  by_cases h : k.getLsbD (63 - i) = true <;> simp [h]

theorem bit_setBit (x : Word) (b : Bool) {i j : Nat} (hi : i < 64) (hj : j < 64) :
    bit (setBit x i b) j = if i = j then b else bit x j := by
  rw [setBit, bit_insertBits _ _ _ hj, bit_mask_self hi hj]
  by_cases h : i = j
  · subst h
    cases b
    · simp [bit]
    · simpa using bit_mask_self hi hi
  · simp [h]

/-! ### The MSR (R17, R38) -/

theorem mask_within_msrMask (c : Params) {i : Nat}
    (h : mask i i &&& ~~~0x900000000000FD32 = 0) : mask i i &&& ~~~msrMask c = 0 := by
  rw [and_not_eq_zero_iff] at *
  intro j hj
  simp only [msrMask, BitVec.getLsbD_or, h j hj, Bool.true_or]

theorem bit_msrMask (c : Params) {i : Nat} (h : bit 0x900000000000FD32 i = true) : bit (msrMask c) i = true := by
  simp only [msrMask, bit_or, h, Bool.true_or]

/-- An interrupt leaves the reserved bits of the MSR 0; LE only where the implementation has it. -/
theorem newMsr_and_not (c : Params) (lpcr : Word) (k : IntKind) (old : Word) :
    newMsr c lpcr k old &&& ~~~msrMask c = 0 := by
  unfold newMsr
  refine or_and_not (or_and_not (or_and_not (or_and_not ?_ ?_) ?_) ?_) ?_ <;> apply bitIf_and_not <;> intro h
  · exact mask_within_msrMask c (by decide)
  · exact mask_within_msrMask c (by decide)
  · exact mask_within_msrMask c (by decide)
  · exact mask_within_msrMask c (by decide)
  · have hle : c.hasLe = true := by simp_all
    rw [and_not_eq_zero_iff]
    intro j hj
    rw [show mask 63 63 = 1 by decide] at hj
    simp only [msrMask, hle, BitVec.getLsbD_or, if_true, hj, Bool.or_true]

/-- An interrupt leaves problem state (R453). -/
theorem pr_newMsr (c : Params) (lpcr : Word) (k : IntKind) (old : Word) : pr (newMsr c lpcr k old) = false := by
  simp [pr, newMsr, bit_or, bit_bitIf]

theorem problemOk_of_not_pr {m : Word} (h : pr m = false) : problemOk m = true := by simp [problemOk, h]

theorem problemOk_newMsr (c : Params) (lpcr : Word) (k : IntKind) (old : Word) : problemOk (newMsr c lpcr k old) = true :=
  problemOk_of_not_pr (pr_newMsr c lpcr k old)

/-- The forced bits: whatever value PR is given, EE, IR and DR follow it (R38). -/
theorem problemOk_forceBits (c : Params) {m x : Word} (h : bit m 49 = bit x 49) :
    problemOk (forceBits m x &&& msrMask c) = true := by
  have h48 : bit (msrMask c) 48 = true := bit_msrMask c (by decide)
  have h49 : bit (msrMask c) 49 = true := bit_msrMask c (by decide)
  have h58 : bit (msrMask c) 58 = true := bit_msrMask c (by decide)
  have h59 : bit (msrMask c) 59 = true := bit_msrMask c (by decide)
  cases hpr : bit x 49 <;>
    simp [problemOk, pr, ee, ir, dr, forceBits, bit_and, bit_setBit, h, hpr, h48, h49, h58, h59]

theorem problemOk_rfidMsr (c : Params) (old x : Word) : problemOk (rfidMsr c old x) = true := by
  apply problemOk_forceBits
  have hk : bit (mask 1 2 ||| mask 4 32 ||| mask 37 41 ||| mask 49 50 ||| mask 52 57 ||| mask 60 63) 49 = true := by decide
  simp [bit_setBit, bit_insertBits, hk]

theorem problemOk_hrfidMsr (c : Params) (old x : Word) : problemOk (hrfidMsr c old x) = true := by
  apply problemOk_forceBits
  have hk : bit (mask 1 32 ||| mask 37 41 ||| mask 49 57 ||| mask 60 63) 49 = true := by decide
  simp [bit_setBit, bit_insertBits, hk]

theorem problemOk_mtmsrdMsr (c : Params) (old x : Word) : problemOk (mtmsrdMsr c old x) = true := by
  apply problemOk_forceBits
  have hk : bit (mask 1 2 ||| mask 4 47 ||| mask 49 50 ||| mask 52 57 ||| mask 60 63) 49 = true := by decide
  simp [bit_setBit, bit_insertBits, hk]

theorem problemOk_mtmsrMsr (c : Params) (old x : Word) : problemOk (mtmsrMsr c old x) = true := by
  apply problemOk_forceBits
  have hk : bit (mask 32 47 ||| mask 49 50 ||| mask 52 57 ||| mask 60 63) 49 = true := by decide
  simp [bit_insertBits, hk]

/-- With L=1 only EE and RI change, so PR does not. -/
theorem pr_mtmsrL1 (old r : Word) : pr (mtmsrL1 old r) = pr old := by
  have hk : bit (mask 48 48 ||| mask 62 62) 49 = false := by decide
  simp [pr, mtmsrL1, bit_insertBits, hk]

theorem mtmsrL1_and_not (c : Params) {old : Word} (r : Word) (h : old &&& ~~~msrMask c = 0) :
    mtmsrL1 old r &&& ~~~msrMask c = 0 :=
  insertBits_and_not _ h (or_and_not (mask_within_msrMask c (by decide)) (mask_within_msrMask c (by decide)))

/-! ### Instruction addresses (R31) -/

theorem and_three_iff (x : Word) : x &&& 3 = 0 ↔ x.toNat % 4 = 0 := by
  have h : (x &&& 3).toNat = x.toNat % 4 := by
    rw [BitVec.toNat_and]
    exact Nat.and_two_pow_sub_one_eq_mod x.toNat 2
  rw [← BitVec.toNat_inj, h]
  rfl

theorem and_not_three_and_three (x : Word) : x &&& ~~~(3#64) &&& 3 = 0 := by
  rw [BitVec.and_assoc, show ~~~(3#64) &&& 3 = 0 by decide]
  exact BitVec.and_zero

theorem State.cia_add_four_and_three (s : State) : (s.cia + 4) &&& 3 = 0 := by
  have h : s.cia &&& 3 = 0 := and_not_three_and_three _
  rw [and_three_iff] at h ⊢
  rw [BitVec.toNat_add, show (4 : Word).toNat = 4 from rfl]
  omega

theorem vector_and_three (k : IntKind) : vector k &&& 3 = 0 := by
  cases k <;> simp only [vector] <;> decide

/-! ### The invariant under the named operations

An operation that leaves a component alone has that field of the invariant by definition, so `{ h with … }` names exactly the
components that it alters. -/

theorem State.Inv.advance {s : State} (h : s.Inv) : s.advance.Inv :=
  { h with nia := s.cia_add_four_and_three, reserved := { h.reserved with } }

theorem State.Inv.setGpr {s : State} (h : s.Inv) (r : Reg) (v : Word) : (s.setGpr r v).Inv :=
  { h with reserved := { h.reserved with } }

theorem State.Inv.drawn {s : State} (h : s.Inv) (n : Nat) : (s.drawn n).Inv :=
  { h with reserved := { h.reserved with } }

theorem State.Inv.withOperand {s : State} (h : s.Inv) (ea : Word) : (s.withOperand ea).Inv :=
  { h with reserved := { h.reserved with } }

theorem State.Inv.use {s : State} (h : s.Inv) (us : List PageUse) : (s.use us).Inv :=
  { h with reserved := { h.reserved with } }

theorem State.Inv.loseReservation {s : State} (h : s.Inv) (a : RealAddr) : (s.loseReservation a).Inv :=
  { h with reserved := { h.reserved with } }

theorem State.Inv.keep {s : State} (h : s.Inv) (e : TlbEntry) (cached : Bool) : (s.keep e cached).Inv :=
  { h with reserved := { h.reserved with } }

theorem State.Inv.invalidateTlb {s : State} (h : s.Inv) (rb : Word) (l : Bool) : (s.invalidateTlb rb l).Inv :=
  { h with reserved := { h.reserved with } }

theorem State.Inv.writeDw {s : State} (h : s.Inv) (a : RealAddr) (x : Word) : (s.writeDw a x).Inv :=
  { h with mem := s.wf_writeDw a x h.mem, reserved := { h.reserved with } }

theorem State.Inv.setSlbEntry {s : State} (h : s.Inv) (i : Nat) (e : SlbEntry) : (s.setSlbEntry i e).Inv :=
  { h with slb := by simp [h.slb], reserved := { h.reserved with } }

theorem State.Inv.invalidateEsid {s : State} (h : s.Inv) (esid : BitVec 36) : (s.invalidateEsid esid).Inv :=
  { h with slb := by simp [State.invalidateEsid, h.slb], reserved := { h.reserved with } }

theorem State.Inv.invalidateSlb {s : State} (h : s.Inv) : s.invalidateSlb.Inv :=
  { h with slb := by simp [State.invalidateSlb, h.slb], reserved := { h.reserved with } }

theorem Memory.wf_recordedMem (m : List Host.Cell) (e : TlbEntry) (store : Bool) (h : Memory.wf m = true) :
    Memory.wf (recordedMem m e store) = true := by
  have hr : Memory.wf (if e.r then m else Memory.orByte m (e.pteAddr + 14) 1) = true := by
    split
    · exact h
    · exact Memory.wf_write _ _ _ h
  unfold recordedMem
  dsimp only
  split
  · exact hr
  · exact Memory.wf_write _ _ _ hr

theorem State.Inv.record {s : State} (h : s.Inv) (e : TlbEntry) (cached store : Bool) : (s.record e cached store).Inv :=
  { h with mem := Memory.wf_recordedMem _ e store h.mem, reserved := { h.reserved with } }

theorem State.Inv.commit {s : State} (h : s.Inv) (k : AccessKind) (t : Target) : (s.commit k t).Inv := by
  unfold State.commit State.recordAs
  split
  · split
    · exact (h.keep _ _).use _
    · exact (h.record _ _ _).use _
    · exact (h.record _ _ _).use _
  · exact h.use _

/-- The MSR replaced by one that R38 and D16 allow. -/
theorem State.Inv.withMsr {s : State} (h : s.Inv) {m : Word} (hp : problemOk m = true) (hm : m &&& ~~~msrMask s.cfg = 0) :
    (s.withMsr m).Inv :=
  { h.advance with problem := hp, reserved := { h.reserved with msr := hm } }

theorem State.Inv.returnTo {s : State} (h : s.Inv) {m : Word} (addr : Word) (hp : problemOk m = true)
    (hm : m &&& ~~~msrMask s.cfg = 0) : (s.returnTo m addr).Inv :=
  { h with nia := and_not_three_and_three _, problem := hp, reserved := { h.reserved with msr := hm } }

/-- An interrupt, or Checkstop, keeps the invariant. -/
theorem TrapFrame.inv {s t : State} (f : TrapFrame s t) (h : s.Inv) : t.Inv := by
  have hcfg := f.cfg
  have hmsr : t.nia &&& 3 = 0 ∧ problemOk t.msr = true ∧ t.msr &&& ~~~msrMask s.cfg = 0 := by
    obtain ⟨k, hn, hm, -⟩ | ⟨hn, hm, -⟩ := f.entered
    · rw [hn, hm]
      exact ⟨vector_and_three k, problemOk_newMsr _ _ _ _, newMsr_and_not _ _ _ _⟩
    · rw [hn, hm]
      exact ⟨h.nia, h.problem, h.reserved.msr⟩
  obtain ⟨hnia, hproblem, hmask⟩ := hmsr
  exact {
    mem := by rw [f.mem]; exact h.mem
    nia := hnia
    problem := hproblem
    slb := by rw [f.slb, hcfg]; exact h.slb
    reserved := {
      msr := by rw [hcfg]; exact hmask
      xer := by rw [f.bookI]; exact h.reserved.xer
      lpcr := by rw [f.spr, hcfg]; exact h.reserved.lpcr
      rmor := by rw [f.spr]; exact h.reserved.rmor
      hrmor := by rw [f.spr]; exact h.reserved.hrmor
      ctrl := by rw [f.spr]; exact h.reserved.ctrl
      sdr1 := by rw [f.spr, hcfg]; exact h.reserved.sdr1
      accr := by rw [f.spr]; exact h.reserved.accr
      dabrx := by rw [f.spr]; exact h.reserved.dabrx
      ear := by rw [f.spr]; exact h.reserved.ear
      mmcr0 := by rw [f.pm]; exact h.reserved.mmcr0
      mmcra := by rw [f.pm]; exact h.reserved.mmcra } }

theorem State.Inv.takeInterrupt {s : State} (h : s.Inv) (k : IntKind) (addr info : Word) :
    (s.takeInterrupt k addr info).Inv :=
  (s.takeInterrupt_frame k addr info).inv h

/-! ### Time and the Performance Monitor -/

theorem triggered_and_not {m : Word} (h : m &&& ~~~mmcr0Mask = 0) (negative enabled : Bool) :
    triggered m negative enabled &&& ~~~mmcr0Mask = 0 := by
  unfold triggered
  split
  · exact setBit_and_not _ h (by decide)
  · split
    · exact setBit_and_not _ h (by decide)
    · exact h

theorem State.Inv.alert {s : State} (h : s.Inv) (p : Sample) : (s.alert p).Inv :=
  have hmmcr0 : (s.alert p).pm.mmcr0 &&& ~~~mmcr0Mask = 0 :=
    setBit_and_not _ (setBit_and_not _ h.reserved.mmcr0 (by decide)) (by decide)
  have hmmcra : (s.alert p).pm.mmcra &&& ~~~mmcraMask = 0 :=
    setBit_and_not _ (setBit_and_not _ (setBit_and_not _ h.reserved.mmcra (by decide)) (by decide)) (by decide)
  { h with reserved := { h.reserved with mmcr0 := hmmcr0, mmcra := hmmcra } }

theorem State.Inv.pmEvaluate {s : State} (h : s.Inv) (event : Bool) (p : Sample) : (s.pmEvaluate event p).Inv := by
  unfold State.pmEvaluate
  split
  · generalize (s.counterNegative || event) = enabled
    have ht : State.Inv { s with pm := { s.pm with mmcr0 := triggered s.pm.mmcr0 (hbit s.pm.pmc[0] 0) enabled } } :=
      { h with reserved := { h.reserved with mmcr0 := triggered_and_not h.reserved.mmcr0 _ _ } }
    dsimp only
    split
    · exact ht.alert p
    · exact ht
  · exact h

theorem State.Inv.count {s : State} (h : s.Inv) (m : Word) (x : Happened) : (s.count m x).Inv := by
  obtain ⟨pmc, he⟩ := s.count_eq m x
  rw [he]
  exact { h with reserved := { h.reserved with } }

theorem State.Inv.tick {s : State} (h : s.Inv) : s.tick.Inv := by
  unfold State.tick
  dsimp only
  apply State.Inv.pmEvaluate
  exact { h with reserved := { h.reserved with } }

theorem State.Inv.ticks {s : State} (h : s.Inv) (n : Nat) : (s.ticks n).Inv := by
  induction n generalizing s with
  | zero => exact h
  | succ n ih => exact ih h.tick

theorem State.Inv.elapse {t : State} (h : t.Inv) (old : State) (i : Input) (c : Option Executed) :
    (t.elapse old i c).Inv := by
  unfold State.elapse State.afterTracing
  have hticks := ((h.count old.msr ⟨c, i.events⟩).pmEvaluate false (t.count old.msr ⟨c, i.events⟩).lastSample).ticks
  dsimp only
  split
  · exact { hticks _ with reserved := { (hticks _).reserved with } }
  · exact hticks _

/-! ### The end of a step -/

theorem State.Inv.sideEffect {s : State} (h : s.Inv) (x : Executed) : (s.sideEffect x).Inv := by
  unfold State.sideEffect
  split
  · exact h
  · exact { h with reserved := { h.reserved with } }

theorem State.Inv.complete {s : State} (h : s.Inv) (old : State) : (s.complete old).Inv :=
  { h with reserved := { h.reserved with } }

theorem State.Inv.remember {s : State} (h : s.Inv) (old : State) : (s.remember old).Inv :=
  { h with reserved := { h.reserved with } }

theorem State.Inv.synchronize {s : State} (h : s.Inv) (old : State) (x : Executed) : (s.synchronize old x).Inv :=
  { h with reserved := { h.reserved with } }

theorem State.Inv.traceSamples {s : State} (h : s.Inv) (old : State) : (s.traceSamples old).Inv := by
  unfold State.traceSamples
  split
  · exact { h with reserved := { h.reserved with } }
  · exact h

theorem State.Inv.afterwards {t : State} (h : t.Inv) (old : State) (x : Executed) : (t.afterwards old x).Inv := by
  unfold State.afterwards
  split
  · exact h.takeInterrupt _ _ _
  · split
    · exact (h.traceSamples old).takeInterrupt _ _ _
    · exact h

theorem State.Inv.finish {t : State} (h : t.Inv) (old : State) (i : Input) (x : Executed) : (t.finish old i x).Inv := by
  have hu := h.remember old
  unfold State.finish
  dsimp only
  split
  · split
    · exact ((hu.sideEffect x).complete old).elapse old i _
    · exact hu.elapse old i _
  · exact ((((hu.sideEffect x).synchronize old x).complete old).elapse old i _).afterwards old x

/-! ### The environment, System Reset and Machine Check -/

theorem State.Inv.loseReservations {s : State} (h : s.Inv) (cs : List (RealAddr × Byte)) :
    (cs.foldl (fun (t : State) c => t.loseReservation c.1) s).Inv := by
  induction cs generalizing s with
  | nil => exact h
  | cons c cs ih => exact ih (h.loseReservation c.1)

theorem State.Inv.foreignStores {s : State} (h : s.Inv) (cs : List (RealAddr × Byte)) : (s.foreignStores cs).Inv := by
  unfold State.foreignStores
  apply State.Inv.loseReservations
  exact { h with mem := Memory.wf_writeAll _ cs h.mem, reserved := { h.reserved with } }

theorem State.Inv.present {s : State} (h : s.Inv) : s.present.Inv := by
  unfold State.present
  apply State.Inv.foreignStores
  exact { h with reserved := { h.reserved with } }

@[simp] theorem State.undefinedRegisters_cfg (s : State) : s.undefinedRegisters.cfg = s.cfg := by
  simp only [State.undefinedRegisters]

/-- At power-on every register takes a value of the bits it stores (R620). -/
theorem State.Inv.undefinedRegisters {s : State} (h : s.Inv) : s.undefinedRegisters.Inv where
  mem := by
    unfold State.undefinedRegisters
    dsimp only
    split
    · exact Memory.wf_writeAll _ _ rfl
    · exact h.mem
  nia := and_not_three_and_three _
  problem := problemOk_forceBits s.cfg rfl
  slb := by simp [State.undefinedRegisters]
  reserved := {
    msr := by rw [State.undefinedRegisters_cfg]; exact masked_and_not _ _
    xer := masked_and_not _ _
    lpcr := by rw [State.undefinedRegisters_cfg]; exact masked_and_not _ _
    rmor := masked_and_not _ _
    hrmor := masked_and_not _ _
    ctrl := masked_and_not _ _
    sdr1 := by rw [State.undefinedRegisters_cfg]; exact masked_and_not _ _
    accr := masked_and_not _ _
    dabrx := masked_and_not _ _
    ear := masked_and_not _ _
    mmcr0 := masked_and_not _ _
    mmcra := masked_and_not _ _ }

theorem State.Inv.withSaved {s : State} (h : s.Inv) (srr0 srr1 : Word) :
    State.Inv { s with spr := { s.spr with srr0 := srr0, srr1 := srr1 } } :=
  { h with reserved := { h.reserved with } }

theorem State.Inv.systemReset {s : State} (h : s.Inv) (k : ResetKind) : (s.systemReset k).Inv := by
  have hu : State.Inv { s with checkstop := false,
                               pend := { sysReset := none, machineCheck := none, external := s.pend.external } } :=
    { h with reserved := { h.reserved with } }
  cases k with
  | powerOn => exact (hu.undefinedRegisters.takeInterrupt .systemReset _ _).withSaved _ _
  | other recoverable => exact (hu.takeInterrupt .systemReset _ _).withSaved _ _

theorem State.Inv.takeMachineCheck {s : State} (h : s.Inv) (r : Bool) : (s.takeMachineCheck r).Inv :=
  (State.machineCheck_frame _ r).inv { h with reserved := { h.reserved with } }

/-! ### What an instruction answers

Every instruction is a chain of tests around an effect, so the invariant is carried through the tests once. -/

/-- The next state, if there is one, satisfies the invariant. -/
def AnswersInv (r : Result) : Prop := ∀ t, r = .next t → t.Inv

namespace AnswersInv

theorem next {t : State} (h : t.Inv) : AnswersInv (.next t) := by
  intro u hu
  cases hu
  exact h

theorem refused (e : Refusal) : AnswersInv (.refused e) := fun _ h => by cases h

theorem raise {s : State} (h : s.Inv) (k : ProgramKind) : AnswersInv (s.raise k) := next ((s.program_frame k).inv h)

theorem require {c : Bool} {e : Refusal} {f : Result} (hf : AnswersInv f) : AnswersInv (require c e f) :=
  fun t h => hf t (require_next.mp h).2

theorem optional {s : State} {has : Bool} {f : Result} (h : s.Inv) (hf : AnswersInv f) : AnswersInv (s.optional has f) := by
  unfold State.optional
  split
  · exact hf
  · exact raise h _

theorem privileged {s : State} {f : Result} (h : s.Inv) (hf : s.problem = false → AnswersInv f) :
    AnswersInv (s.privileged f) := by
  unfold State.privileged
  split
  · exact raise h _
  · exact hf (eq_false_of_ne_true ‹_›)

theorem hypervisorOnly {s : State} {f : Result} (h : s.Inv) (hf : AnswersInv f) : AnswersInv (s.hypervisorOnly f) := by
  unfold State.hypervisorOnly
  split
  · exact hf
  · exact raise h _

theorem alter {s t : State} (h : t.Inv) : AnswersInv (s.alter t) := require (next h)

theorem andThen {α : Type} {x : Access α} {f : α → State → Result} (htrap : ∀ u, x = .trap u → u.Inv)
    (hok : ∀ a u, x = .ok a u → AnswersInv (f a u)) : AnswersInv (x.andThen f) := by
  intro t h
  obtain h | ⟨a, u, hx, hf⟩ := Access.andThen_next h
  · exact htrap t h
  · exact hok a u hx t hf

theorem overflowTest {s : State} {store : Bool} {ea : Word} {f : Result} (h : s.Inv) (hf : AnswersInv f) :
    AnswersInv (s.overflowTest store ea f) := by
  intro t ht
  obtain hframe | ⟨-, ht⟩ := State.overflowTest_next ht
  · exact hframe.inv h
  · exact hf t ht

theorem slbIndex {s : State} {rb clear : Word} {f : Nat → Result} (hf : ∀ i, AnswersInv (f i)) :
    AnswersInv (s.slbIndex rb clear f) :=
  require (require (hf _))

theorem bridge {s : State} {f : Result} (h : s.Inv) (hf : AnswersInv f) : AnswersInv (s.bridge f) :=
  optional h (privileged h fun _ => require hf)

theorem tlbInstruction {s : State} {has : Bool} {f : Result} (h : s.Inv) (hf : AnswersInv f) :
    AnswersInv (s.tlbInstruction has f) :=
  optional h (hypervisorOnly h hf)

end AnswersInv

/-! ### The instructions of Book III -/

section Instructions

variable {s : State} (h : s.Inv)
include h

theorem execSc_inv (lev : Bool) : AnswersInv (execSc lev s) := .next (h.takeInterrupt _ _ _)

theorem execRfid_inv : AnswersInv (execRfid s) :=
  .privileged h fun _ => .next (h.returnTo _ (problemOk_rfidMsr _ _ _) (masked_and_not _ _))

theorem execHrfid_inv : AnswersInv (execHrfid s) :=
  .hypervisorOnly h (.next (h.returnTo _ (problemOk_hrfidMsr _ _ _) (masked_and_not _ _)))

theorem execMfmsr_inv (rt : Reg) : AnswersInv (execMfmsr rt s) := .privileged h fun _ => .next (h.advance.setGpr _ _)

/-- With L=1 a privileged program changes EE and RI only, and stays outside problem state. -/
theorem withMsr_mtmsrL1_inv (hp : s.problem = false) (r : Word) : (s.withMsr (mtmsrL1 s.msr r)).Inv :=
  h.withMsr (problemOk_of_not_pr ((pr_mtmsrL1 _ _).trans hp)) (mtmsrL1_and_not _ _ h.reserved.msr)

theorem moveMsrd_inv {m : Word} (hp : problemOk m = true) (hm : m &&& ~~~msrMask s.cfg = 0) :
    AnswersInv (s.moveMsrd m) := by
  unfold State.moveMsrd
  split
  · have hwrap : State.Inv { s with msr := m, nia := Config.freeWord s.run.draws &&& ~~~(3#64) } :=
      { h with nia := and_not_three_and_three _, problem := hp, reserved := { h.reserved with msr := hm } }
    exact .require (.next (hwrap.drawn 1))
  · split
    · exact .refused _
    · exact .alter (h.withMsr hp hm)

theorem execMtmsrd_inv (rs : Reg) (l : Bool) : AnswersInv (execMtmsrd rs l s) := by
  refine .privileged h fun hp => ?_
  split
  · exact .next (withMsr_mtmsrL1_inv h hp _)
  · exact moveMsrd_inv h (problemOk_mtmsrdMsr _ _ _) (masked_and_not _ _)

theorem execMtmsr_inv (rs : Reg) (l : Bool) : AnswersInv (execMtmsr rs l s) := by
  refine .optional h (.privileged h fun hp => ?_)
  split
  · exact .next (withMsr_mtmsrL1_inv h hp _)
  · exact .alter (h.withMsr (problemOk_mtmsrMsr _ _ _) (masked_and_not _ _))

theorem execSlbie_inv (rb : Reg) : AnswersInv (execSlbie rb s) :=
  .privileged h fun _ => .require <| .require <| .require <| .alter (h.advance.invalidateEsid _)

theorem execSlbia_inv : AnswersInv (execSlbia s) := .privileged h fun _ => .alter h.advance.invalidateSlb

theorem execSlbmte_inv (rs rb : Reg) : AnswersInv (execSlbmte rs rb s) :=
  .privileged h fun _ => .require <| .slbIndex fun i => .require <| .require <| .require <| .require <|
    .alter (h.advance.setSlbEntry i _)

theorem execSlbmfev_inv (rt rb : Reg) : AnswersInv (execSlbmfev rt rb s) := by
  refine .privileged h fun _ => .slbIndex fun i => ?_
  split
  · exact .next (h.advance.setGpr _ _)
  · exact .next ((h.advance.setGpr _ _).drawn 1)

theorem execSlbmfee_inv (rt rb : Reg) : AnswersInv (execSlbmfee rt rb s) := by
  refine .privileged h fun _ => .slbIndex fun i => ?_
  split
  · exact .next (h.advance.setGpr _ _)
  · exact .next ((h.advance.setGpr _ _).drawn 1)

theorem loadSegment_inv (sr : BitVec 4) (v : Word) : AnswersInv (s.loadSegment sr v) :=
  .require (.alter (h.advance.setSlbEntry _ _))

theorem storeSegment_inv (rt : Reg) (sr : BitVec 4) : AnswersInv (s.storeSegment rt sr) :=
  .next ((h.advance.setGpr _ _).drawn 1)

theorem execTlbie_inv (rb : Reg) (l : Bool) : AnswersInv (execTlbie rb l s) :=
  .tlbInstruction h <| .require <| .require <| .alter (h.advance.invalidateTlb _ _)

theorem execTlbiel_inv (rb : Reg) (l : Bool) : AnswersInv (execTlbiel rb l s) :=
  .tlbInstruction h <| .require <| .require <| .alter (h.advance.invalidateTlb _ _)

theorem execTlbia_inv : AnswersInv (execTlbia s) :=
  .tlbInstruction h <| .alter { h.advance with reserved := { h.advance.reserved with } }

/-! Load and Store Quadword -/

theorem State.Inv.of_dataAccess_ok {k : AccessKind} {ea : Word} {n : Nat} {a : RealAddr} {t : State}
    (he : s.dataAccess k ea n = .ok a t) : t.Inv := by
  obtain ⟨x, -, rfl, -⟩ := State.dataAccess_ok he
  exact (h.drawn 3).commit k x

theorem quadTests_inv {formOk : Bool} {dsisr : Nat → Half} {ea : Word} {f : Result} (hf : AnswersInv f) :
    AnswersInv (s.quadTests formOk dsisr ea f) := by
  refine .optional h (.privileged h fun _ => ?_)
  split
  · exact .raise h _
  · split
    · exact .next ((State.alignment_frame _ _ _).inv (h.drawn 1))
    · exact hf

theorem execLq_inv (rt : Reg) (dq : BitVec 12) (ra : Reg) : AnswersInv (execLq rt dq ra s) := by
  refine quadTests_inv h (.overflowTest h (.andThen (fun u hu => (State.dataAccess_trap hu).inv h) fun a t ht => .next ?_))
  exact (((State.Inv.of_dataAccess_ok h ht).advance.setGpr _ _).setGpr _ _).withOperand _

theorem execStq_inv (rs : Reg) (ds : BitVec 14) (ra : Reg) : AnswersInv (execStq rs ds ra s) := by
  refine quadTests_inv h (.overflowTest h (.andThen (fun u hu => (State.dataAccess_trap hu).inv h) fun a t ht => .alter ?_))
  exact ((((State.Inv.of_dataAccess_ok h ht).advance.writeDw _ _).writeDw _ _).loseReservation _).withOperand _

/-! Moves to and from Special Purpose Registers -/

theorem State.Inv.writeSpr (r : Spr) (v : Word) : (s.writeSpr r v).Inv := by
  cases r with
  | xer => exact { h with reserved := { h.reserved with xer := masked_and_not _ _ } }
  | sdr1 => exact { h with reserved := { h.reserved with sdr1 := masked_and_not _ _ } }
  | accr => exact { h with reserved := { h.reserved with accr := masked_and_not _ _ } }
  | ctrl => exact { h with reserved := { h.reserved with ctrl := masked_and_not _ _ } }
  | ear => exact { h with reserved := { h.reserved with ear := masked_and_not _ _ } }
  | rmor => exact { h with reserved := { h.reserved with rmor := masked_and_not _ _ } }
  | hrmor => exact { h with reserved := { h.reserved with hrmor := masked_and_not _ _ } }
  | lpcr => exact { h with reserved := { h.reserved with lpcr := masked_and_not _ _ } }
  | dabrx => exact { h with reserved := { h.reserved with dabrx := masked_and_not _ _ } }
  | mmcra => exact { h with reserved := { h.reserved with mmcra := masked_and_not _ _ } }
  | mmcr0 => exact { h with reserved := { h.reserved with mmcr0 := masked_and_not _ _ } }
  | pvr | pir => exact h
  | _ => exact { h with reserved := { h.reserved with } }

omit h in
/-- A write sets off an evaluation of conditions and events, or nothing (R590). -/
theorem State.afterSprWrite_cases (r : Spr) (old : Word) (p : Sample) :
    s.afterSprWrite r old p = s ∨ ∃ e, s.afterSprWrite r old p = s.pmEvaluate e p := by
  cases r with
  | tbl | tbu | mmcra | pmc _ | mmcr0 | siar | sdar | mmcr1 => exact .inr ⟨_, rfl⟩
  | _ => exact .inl rfl

theorem State.Inv.afterSprWrite (r : Spr) (old : Word) (p : Sample) : (s.afterSprWrite r old p).Inv := by
  obtain he | ⟨e, he⟩ := s.afterSprWrite_cases r old p
  · rw [he]
    exact h
  · rw [he]
    exact h.pmEvaluate e p

theorem moveToSpr_inv (r : Spr) (v : Word) : AnswersInv (s.moveToSpr r v) := by
  unfold State.moveToSpr
  split
  · exact .refused _
  · have ht := fun old p => State.Inv.afterSprWrite (State.Inv.writeSpr h.advance r v) r old p
    dsimp only
    split
    · exact .alter (ht _ _)
    · exact .next (ht _ _)

theorem sprPrivilege_inv (p : Privilege) {f : Result} (hf : AnswersInv f) : AnswersInv (s.sprPrivilege p f) := by
  cases p with
  | no => exact hf
  | yes => exact .privileged h fun _ => hf
  | hypv =>
    refine .privileged h fun _ => ?_
    split
    · split
      · exact .raise h _
      · exact .next h.advance
    · exact hf

theorem undefinedSpr_inv (spr : BitVec 10) : AnswersInv (s.undefinedSpr spr) := by
  unfold State.undefinedSpr
  split
  · exact .raise h _
  · split
    · exact .raise h _
    · exact .raise h _
  · split
    · exact .raise h _
    · exact .refused _

theorem execMtspr_inv (spr : BitVec 10) (rs : Reg) : AnswersInv (execMtspr spr rs s) := by
  unfold execMtspr
  split
  · exact sprPrivilege_inv h _ (moveToSpr_inv h _ _)
  · exact undefinedSpr_inv h _

theorem execMfspr_inv (rt : Reg) (spr : BitVec 10) : AnswersInv (execMfspr rt spr s) := by
  unfold execMfspr
  split
  · exact sprPrivilege_inv h _ (.next ((h.advance.setGpr _ _).drawn _))
  · exact undefinedSpr_inv h _

/-- Every instruction of Book III keeps the invariant. -/
theorem exec_inv (i : Instr) : AnswersInv (exec i s) := by
  cases i with
  | sc lev => exact execSc_inv h lev
  | rfid => exact execRfid_inv h
  | hrfid => exact execHrfid_inv h
  | mtspr spr rs => exact execMtspr_inv h spr rs
  | mfspr rt spr => exact execMfspr_inv h rt spr
  | mtmsrd rs l => exact execMtmsrd_inv h rs l
  | mfmsr rt => exact execMfmsr_inv h rt
  | mtmsr rs l => exact execMtmsr_inv h rs l
  | slbie rb => exact execSlbie_inv h rb
  | slbia => exact execSlbia_inv h
  | slbmte rs rb => exact execSlbmte_inv h rs rb
  | slbmfev rt rb => exact execSlbmfev_inv h rt rb
  | slbmfee rt rb => exact execSlbmfee_inv h rt rb
  | tlbie rb l => exact execTlbie_inv h rb l
  | tlbiel rb l => exact execTlbiel_inv h rb l
  | tlbia => exact execTlbia_inv h
  | tlbsync => exact .tlbInstruction h (.next h.advance)
  | lq rt dq ra => exact execLq_inv h rt dq ra
  | stq rs ds ra => exact execStq_inv h rs ds ra
  | mtsr sr rs => exact .bridge h (loadSegment_inv h _ _)
  | mtsrin rs rb => exact .bridge h (loadSegment_inv h _ _)
  | mfsr rt sr => exact .bridge h (storeSegment_inv h _ _)
  | mfsrin rt rb => exact .bridge h (storeSegment_inv h _ _)
  | ptesync => exact .next h.advance

end Instructions

/-! ### The words of Books I and II, and of other books -/

section Words

variable {s : State} (h : s.Inv)
include h

theorem State.Inv.applied (e : BaseEffect) : (s.applied e).Inv :=
  { h.advance with reserved := { h.reserved with xer := masked_and_not _ _ } }

theorem State.Inv.storeBytes (ts : List Target) (bs : List Byte) : (s.storeBytes ts bs).Inv := by
  obtain ⟨r, he⟩ := s.storeBytes_eq ts bs
  rw [he]
  exact { h with mem := Memory.wf_writeAll _ _ h.mem, reserved := { h.reserved with } }

theorem State.Inv.commitAll (k : AccessKind) (ts : List Target) : (ts.foldl (fun v x => v.commit k x) s).Inv := by
  induction ts generalizing s with
  | nil => exact h
  | cons x ts ih => exact ih (h.commit k x)

omit h in
/-- The access of a string of length zero meets a Compare or Breakpoint match, or only draws undefined values. -/
theorem State.emptyAccess_cases (k : AccessKind) (ea : Word) :
    s.emptyAccess k ea = .ok [] (s.drawn 3) ∨ ∃ t, s.emptyAccess k ea = .trap t ∧ TrapFrame s t := by
  have hif : ∃ v : Violation, s.emptyAccess k ea =
      if v.any then .trap ((s.drawn 3).violate v k.store ea) else .ok [] (s.drawn 3) := ⟨_, rfl⟩
  obtain ⟨v, he⟩ := hif
  rw [he]
  split
  · exact .inr ⟨_, rfl, (State.violate_frame _ _ _ _).of_drawn⟩
  · exact .inl rfl

theorem State.Inv.of_accessOperand_ok {x : StorageWord} {w : Half} {ts : List Target} {t : State}
    (he : x.accessOperand w s = .ok ts t) : t.Inv := by
  unfold StorageWord.accessOperand at he
  split at he
  · obtain hok | ⟨u, htrap, -⟩ := s.emptyAccess_cases (x.kind.access s) (x.ea w s)
    · cases hok.symm.trans he
      exact h.drawn 3
    · cases htrap.symm.trans he
  · obtain ⟨-, rfl, -⟩ := State.accessAll_ok he
    exact (h.drawn _).commitAll _ ts

theorem State.Inv.of_accessOperand_trap {x : StorageWord} {w : Half} {t : State}
    (he : x.accessOperand w s = .trap t) : t.Inv := by
  unfold StorageWord.accessOperand at he
  split at he
  · obtain hok | ⟨u, htrap, hframe⟩ := s.emptyAccess_cases (x.kind.access s) (x.ea w s)
    · cases hok.symm.trans he
    · cases htrap.symm.trans he
      exact hframe.inv h
  · exact (State.accessAll_trap (x.takeAlignment_frame w) he).inv h

omit h in
theorem AnswersInv.withBase {b : Option BaseEffect} {r : Refusal} {f : BaseEffect → Result}
    (hf : ∀ e, AnswersInv (f e)) : AnswersInv (withBase b r f) := by
  cases b with
  | some e => exact hf e
  | none => exact .refused r

theorem AnswersInv.needsFp {float : Bool} {f : Result} (hf : AnswersInv f) : AnswersInv (s.needsFp float f) := by
  unfold State.needsFp
  split
  · exact .next (h.takeInterrupt _ _ _)
  · exact hf

theorem AnswersInv.externalControl {store : Bool} {f : Result} (hf : AnswersInv f) :
    AnswersInv (s.externalControl store f) := by
  refine .optional h ?_
  split
  · exact .next ((State.dataStorage_frame _ _ _).inv (h.drawn 1))
  · split
    · exact .refused _
    · exact hf

theorem AnswersInv.external (k : StorageKind) {f : Result} (hf : AnswersInv f) : AnswersInv (k.external s f) := by
  unfold StorageKind.external
  split
  · exact .externalControl h hf
  · exact .externalControl h hf
  · exact hf

theorem AnswersInv.storageOverflowTest {x : StorageWord} {w : Half} {f : Result} (hf : AnswersInv f) :
    AnswersInv (x.overflowTest w s f) := by
  unfold StorageWord.overflowTest
  split
  · exact hf
  · exact .overflowTest h hf

theorem execStorage_inv (x : StorageWord) (w : Half) (b : Option BaseEffect) : AnswersInv (execStorage x w b s) := by
  unfold execStorage
  split
  · exact .raise h _
  · refine .external h _ (.needsFp h ?_)
    split
    · exact .next ((x.takeAlignment_frame w s).inv h)
    · refine .storageOverflowTest h (.andThen (fun u => State.Inv.of_accessOperand_trap h) fun ts t ht => .withBase fun e => ?_)
      have hu := ((State.Inv.of_accessOperand_ok h ht).applied e).withOperand (x.ea w s)
      dsimp only
      split
      · exact .alter (hu.storeBytes ts e.stored)
      · exact .next hu

theorem execFloat_inv (w : Half) (b : Option BaseEffect) : AnswersInv (execFloat w b s) := by
  refine .needsFp h (.withBase fun e => ?_)
  dsimp only
  split
  · exact .next ((h.applied e).takeInterrupt _ _ _)
  · exact .next (h.applied e)

theorem execOutside_inv (x : Outside) (w : Half) (b : Option BaseEffect) : AnswersInv (execOutside x w b s) := by
  cases x with
  | storage y => exact execStorage_inv h y w b
  | float => exact execFloat_inv h w b
  | trap =>
    refine .withBase fun e => ?_
    split
    · exact .raise h _
    · exact .next (h.applied e)
  | branch =>
    exact .withBase fun e => .next
      { h.applied e with nia := and_not_three_and_three _, reserved := { (h.applied e).reserved with } }
  | isync => exact .next h.advance
  | plain listed => exact .withBase fun e => .next (h.applied e)

theorem execBase_inv (x : Outside) (w : Half) (b : Option BaseWord) : AnswersInv (execBase x w b s) := by
  unfold execBase
  split
  · exact .raise h _
  · exact execOutside_inv h _ _ _
  · exact execOutside_inv h _ _ _

theorem execMftb_inv (rt : Reg) (tbr : BitVec 10) : AnswersInv (execMftb rt tbr s) := by
  unfold execMftb
  split
  · exact .next (h.advance.setGpr _ _)
  · exact .next (h.advance.setGpr _ _)
  · split
    · exact .raise h _
    · exact .raise h _

theorem execForeign_inv (f : Foreign) : AnswersInv (execForeign f s) := by
  cases f with
  | mftb rt tbr => exact execMftb_inv h rt tbr
  | opcode0 => exact .raise h _
  | _ => exact .next h.advance

/-! ### The step -/

omit h in
theorem AnswersInv.finishResult {r : Result} (hr : AnswersInv r) (old : State) (i : Input) (x : Executed) :
    AnswersInv (finishResult r old i x) := by
  intro t ht
  obtain ⟨u, hu, -, -, rfl⟩ := finishResult_next ht
  exact (hr u hu).finish old i x

theorem State.Inv.of_fetch_ok {w : Half} {t : State} (he : s.fetch = .ok w t) : t.Inv := by
  unfold State.fetch at he
  split at he <;> try cases he
  · obtain ⟨-, rfl⟩ := State.fetchWord_ok he
    exact h
  · split at he
    · cases he
    · split at he
      · cases he
      · split at he
        · cases he
        · obtain ⟨-, rfl⟩ := State.fetchWord_ok he
          exact (h.drawn 1).record _ _ _

theorem runWord_inv (w : Half) (old : State) (i : Input) : AnswersInv (s.runWord w old i) := by
  unfold State.runWord
  split
  · exact (exec_inv h _).finishResult old i _
  · unfold State.runForeign
    split
    · exact (execForeign_inv h _).finishResult old i _
    · exact (execBase_inv h _ _ _).finishResult old i _

theorem instruction_inv (i : Input) : AnswersInv (s.instruction i) := by
  refine .require ?_
  split
  · exact runWord_inv (State.Inv.of_fetch_ok h ‹_›) _ _ _
  · exact .next (((State.fetch_trap ‹_›).inv h).elapse _ _ _)
  · exact .refused _

theorem boundary_inv (i : Input) : AnswersInv (s.boundary i) := by
  intro t ht
  obtain ⟨k, -, rfl⟩ | ⟨-, -, hrest⟩ := State.boundary_next ht
  · exact (h.systemReset k).elapse _ _ _
  · obtain ⟨r, -, rfl⟩ | ⟨-, -, ⟨k, ks, -, rfl⟩ | ⟨-, hi⟩⟩ := hrest
    · exact (h.takeMachineCheck r).elapse _ _ _
    · exact ((h.drawn 1).takeInterrupt _ _ _).elapse _ _ _
    · exact instruction_inv h i t hi

theorem step_inv : AnswersInv (step s) := boundary_inv h.present _

end Words

/-- Settles O7: at a boundary a step takes one interrupt or runs one word; each of these, what the environment does before it and
the counting and ticks after it keep the invariant. -/
theorem stepKeepsInvariant : Obligations.StepKeepsInvariant := fun _ t h ht => step_inv h t ht

end Sys2Proof.Machine
end

section
/-! PROOFS. Reference and Change recording (O59), and invalidation of TLB entries (O47). -/

namespace Sys2Proof.Machine

/-! ### Recording R and C (R175, D15) -/

/-- A byte of storage into which a value is ORed unless a condition holds. -/
theorem Memory.read_orByte_unless (m : List Host.Cell) (a x : RealAddr) (v : Byte) (c : Prop) [Decidable c] :
    Memory.read (if c then m else Memory.orByte m a v) x.toNat =
      if x = a then if c then Memory.read m x.toNat else Memory.read m x.toNat ||| v else Memory.read m x.toNat := by
  by_cases hc : c
  · simp only [hc, if_true, ite_self]
  · simp only [hc, if_false, Memory.orByte, Memory.read_write, BitVec.toNat_inj]
    split
    · rename_i hx
      rw [hx]
    · rfl

/-- Recording is one OR into the byte of R and one into the byte of C, each made only where it is due. -/
theorem Memory.read_recordedMem (m : List Host.Cell) (e : TlbEntry) (store : Bool) (x : RealAddr) :
    Memory.read (recordedMem m e store) x.toNat =
      if x = e.pteAddr + 15 then
        if !store || e.c then Memory.read m x.toNat else Memory.read m x.toNat ||| 0x80
      else if x = e.pteAddr + 14 then
        if e.r then Memory.read m x.toNat else Memory.read m x.toNat ||| 1
      else Memory.read m x.toNat := by
  have hne : e.pteAddr + 15 ≠ e.pteAddr + 14 := by simp
  unfold recordedMem
  rw [Memory.read_orByte_unless, Memory.read_orByte_unless]
  by_cases h15 : x = e.pteAddr + 15
  · have h14 : x ≠ e.pteAddr + 14 := fun h => hne (h15.symm.trans h)
    rw [if_pos h15, if_pos h15, if_neg h14]
  · rw [if_neg h15, if_neg h15]

theorem State.byte_record (s : State) (e : TlbEntry) (cached store : Bool) (x : RealAddr) :
    (s.record e cached store).byte x =
      if x = e.pteAddr + 15 then if !store || e.c then s.byte x else s.byte x ||| 0x80
      else if x = e.pteAddr + 14 then if e.r then s.byte x else s.byte x ||| 1
      else s.byte x :=
  Memory.read_recordedMem s.mem e store x

/-- Settles O59: storage after recording is read byte by byte, and the canonical form is kept by each write. -/
theorem recordingSetsOnlyRC : Obligations.RecordingSetsOnlyRC := by
  intro s e cached store
  have hne : e.pteAddr + 14 ≠ e.pteAddr + 15 := by simp
  refine ⟨fun x h14 h15 => ?_, ?_, ?_, Memory.wf_recordedMem s.mem e store, rfl⟩
  · rw [State.byte_record, if_neg h15, if_neg h14]
  · rw [State.byte_record, if_neg hne, if_pos rfl, TlbEntry.r]
  · rw [State.byte_record, if_pos rfl, TlbEntry.c]
    cases store <;> simp

/-! ### Invalidation of TLB entries (R390, R391) -/

/-- The low-order bits of a page number shifted to their place in a 48-bit address and back. -/
theorem shiftLeft_setWidth_ushiftRight_toNat (x : BitVec 80) {p : Nat} (hp : p ≤ 48) :
    ((x <<< p).setWidth 48 >>> p).toNat = x.toNat % 2 ^ (48 - p) := by
  have hpow : 2 ^ 48 = 2 ^ p * 2 ^ (48 - p) := by rw [← Nat.pow_add, Nat.add_sub_cancel' hp]
  rw [BitVec.toNat_ushiftRight, BitVec.toNat_setWidth, BitVec.toNat_shiftLeft, Nat.shiftLeft_eq, Nat.shiftRight_eq_div_pow,
    Nat.mod_mod_of_dvd _ (Nat.pow_dvd_pow 2 (by omega)), hpow, Nat.mul_comm, Nat.mul_mod_mul_left,
    Nat.mul_div_cancel_left _ (Nat.two_pow_pos p)]

/-- The entries named, in the numbers of R390: VPN[32:79-p] = (RB)[16:63-p]. -/
theorem TlbEntry.named_iff {c : Params} {e : TlbEntry} {rb : Word} {l : Bool} (hp : pageBits c l ≤ 48)
    (hrb : rb.toNat < 2 ^ 48) : e.named c rb l = true ↔
      e.large = l ∧ e.vpn.toNat % 2 ^ (48 - pageBits c l) = rb.toNat / 2 ^ pageBits c l := by
  have hb : (comparedPage c l (rb.setWidth 48)).toNat = rb.toNat / 2 ^ pageBits c l := by
    rw [comparedPage, BitVec.toNat_ushiftRight, BitVec.toNat_setWidth, Nat.mod_eq_of_lt hrb, Nat.shiftRight_eq_div_pow]
  rw [TlbEntry.named, Bool.and_eq_true, beq_iff_eq, beq_iff_eq, ← BitVec.toNat_inj, hb,
    shiftLeft_setWidth_ushiftRight_toNat _ hp]

theorem State.mem_invalidateTlb {s : State} {rb : Word} {l : Bool} (hp : pageBits s.cfg l ≤ 48) (hrb : rb.toNat < 2 ^ 48)
    (e : TlbEntry) : e ∈ (s.invalidateTlb rb l).tlb ↔ e ∈ s.tlb
      ∧ ¬(e.large = l ∧ e.vpn.toNat % 2 ^ (48 - pageBits s.cfg l) = rb.toNat / 2 ^ pageBits s.cfg l) := by
  rw [State.invalidateTlb_tlb, List.mem_filter, Bool.not_eq_true', ← Bool.not_eq_true, TlbEntry.named_iff hp hrb]

theorem State.tlbInstruction_of_hypervisor {s : State} {has : Bool} (f : Result) (hhv : s.hypervisor = true)
    (htlb : s.cfg.hasTlb = true) (hhas : has = true) : s.tlbInstruction has f = f := by
  simp [State.tlbInstruction, State.optional, State.hypervisorOnly, hhv, htlb, hhas]

theorem require_of_true {c : Bool} {r : Refusal} {f : Result} (h : c = true) : require c r f = f := if_pos h

/-- An address of 48 bits has bits 0:15 clear. -/
theorem and_mask_0_15 {b : Word} (hb : b.toNat < 2 ^ 48) : b &&& mask 0 15 = 0 := by
  have hmask : mask 0 15 = ~~~(0xFFFFFFFFFFFF : Word) := by decide
  rw [hmask, and_not_eq_zero_iff]
  intro i hi
  have h48 : i < 48 := by
    by_contra hge
    have hclear : b.getLsbD i = false :=
      Nat.testBit_lt_two_pow (hb.trans_le (Nat.pow_le_pow_right (by omega) (by omega)))
    rw [hclear] at hi
    cases hi
  interval_cases i <;> rfl

/-- Settles O47: the tests of `tlbie` and `tlbiel` all pass, and what is left of the TLB is read off `TlbEntry.named_iff`. -/
theorem tlbInvalidateEntry : Obligations.TlbInvalidateEntry := by
  intro rb l s hhv htlb hsf hlarge b p hb hbranch
  have hp : pageBits s.cfg l ≤ 48 := by
    unfold pageBits smallPageBits
    split <;> omega
  have halter : s.alter (s.advance.invalidateTlb b l) = .next (s.advance.invalidateTlb b l) :=
    State.alter_next.mpr ⟨implicitBranch_eq_false.mpr hbranch, rfl⟩
  have hhigh : b &&& mask 0 15 = 0 := and_mask_0_15 hb
  have hgone := State.mem_invalidateTlb (s := s.advance) hp hb
  refine ⟨⟨_, ?_, rfl, hgone⟩, fun htlbiel hlow => ⟨_, ?_, rfl, hgone⟩⟩
  · show execTlbie rb l s = _
    rw [execTlbie, State.tlbInstruction_of_hypervisor _ hhv htlb rfl, require_of_true hsf,
      require_of_true (beq_iff_eq.mpr hhigh), halter]
  · have hclear : b &&& (mask 0 15 ||| mask 52 63) = 0 := by
      rw [BitVec.and_or_distrib_left, hhigh, show mask 52 63 = 0xFFF by decide, hlow]
      rfl
    show execTlbiel rb l s = _
    rw [execTlbiel, State.tlbInstruction_of_hypervisor _ hhv htlb htlbiel, require_of_true hsf,
      require_of_true (beq_iff_eq.mpr hclear), halter]

end Sys2Proof.Machine
end

section
/-! PROOFS. Moves to a Special Purpose Register and back (O42). -/

namespace Sys2Proof.Machine

/-! ### Registers that have one number for both moves (R66) -/

/-- The table of R66 gives the register one number for both moves. -/
def Spr.hasOneNumber : Spr → Bool
  | .ctrl | .tbl | .tbu | .pvr | .pir => false
  | _ => true

/-- The register belongs to the Performance Monitor, so that a write to it sets off an evaluation (R590). -/
def Spr.isMonitor : Spr → Bool
  | .mmcra | .pmc _ | .mmcr0 | .siar | .sdar | .mmcr1 => true
  | _ => false

/-- The bits that a write to the register stores, by register; `OneNumber` ties it to the frozen table by number. -/
def Spr.storedBits (c : Params) : Spr → Word
  | .xer => xerMask
  | .dsisr | .dec | .hdec | .lpidr | .pmc _ => 0xFFFFFFFF
  | .sdr1 => sdr1Mask c
  | .accr => accrMask
  | .ear => zext earMask
  | .rmor | .hrmor => rmorMask
  | .lpcr => lpcrMask c
  | .mmcra => mmcraMask
  | .mmcr0 => mmcr0Mask
  | .dabrx => dabrxMask
  | _ => ~~~0

/-- Both moves with the number `n` go to the register `r`, which stores the bits that `sprStored` gives for `n`. -/
structure OneNumber (c : Params) (n : BitVec 10) (r : Spr) : Prop where
  write : ∃ p, sprForWrite c n = some (r, p)
  read : ∃ p, sprForRead c n = some (r, p)
  stored : sprStored c n.toNat = r.storedBits c
  one : r.hasOneNumber = true

/-- The numbers below the Performance Monitor's that stand in both columns of R66, whatever the implementation. -/
theorem oneNumber_plain (c : Params) {n : BitVec 10}
    (hn : n ∈ ([1, 8, 9, 18, 19, 22, 25, 26, 27, 29, 272, 273, 274, 275, 304, 305, 309, 310, 312, 313, 314,
      315, 318, 319, 1013, 1015] : List (BitVec 10))) : ∃ r, OneNumber c n r ∧ r.isMonitor = false := by
  simp only [List.mem_cons, List.not_mem_nil, or_false] at hn
  rcases hn with rfl | rfl | rfl | rfl | rfl | rfl | rfl | rfl | rfl | rfl | rfl | rfl | rfl | rfl | rfl | rfl | rfl | rfl
    | rfl | rfl | rfl | rfl | rfl | rfl | rfl | rfl
  all_goals exact ⟨_, ⟨⟨_, rfl⟩, ⟨_, rfl⟩, rfl, rfl⟩, rfl⟩

theorem oneNumber_ear {c : Params} (h : c.hasEar = true) : OneNumber c 282 .ear :=
  ⟨⟨.hypv, by simp [sprForWrite, commonSpr, provided, h]⟩, ⟨.yes, by simp [sprForRead, commonSpr, provided, h]⟩,
    rfl, rfl⟩

theorem commonSpr_monitor {k : Nat} (h : 784 ≤ k ∧ k < 800) : commonSpr k = none := by
  obtain ⟨hlo, hhi⟩ := h
  interval_cases k <;> rfl

theorem sprForWrite_monitor {c : Params} (hpmm : c.hasPmm = true) {n : BitVec 10} (hn : 784 ≤ n.toNat ∧ n.toNat < 800) :
    sprForWrite c n = (perfSpr (n.toNat - 784)).map fun x => (x, .yes) := by
  unfold sprForWrite
  rw [commonSpr_monitor hn]
  dsimp only
  split
  case h_5 => rw [if_pos hn, hpmm, provided, if_pos rfl]
  all_goals omega

theorem sprForRead_monitor {c : Params} (hpmm : c.hasPmm = true) {n : BitVec 10} (hn : 784 ≤ n.toNat ∧ n.toNat < 800) :
    sprForRead c n = (perfSpr (n.toNat - 784)).map fun x => (x, .yes) := by
  unfold sprForRead
  rw [commonSpr_monitor hn]
  dsimp only
  split
  case h_6 => rw [if_neg (by omega), if_pos hn, hpmm, provided, if_pos rfl]
  all_goals omega

/-- The privileged numbers of the Performance Monitor's registers begin at 784 (R64, R66). -/
theorem perfSpr_stored (c : Params) {k : Nat} {r : Spr} (h : perfSpr k = some r) :
    sprStored c (k + 784) = r.storedBits c ∧ r.hasOneNumber = true := by
  unfold perfSpr at h
  split at h <;> cases h <;> exact ⟨rfl, rfl⟩

theorem oneNumber_monitor {c : Params} (hpmm : c.hasPmm = true) {n : BitVec 10} {r : Spr}
    (hn : 784 ≤ n.toNat ∧ n.toNat < 800) (hr : perfSpr (n.toNat - 784) = some r) : OneNumber c n r := by
  obtain ⟨hstored, hone⟩ := perfSpr_stored c hr
  rw [Nat.sub_add_cancel hn.1] at hstored
  exact ⟨⟨.yes, by rw [sprForWrite_monitor hpmm hn, hr]; rfl⟩, ⟨.yes, by rw [sprForRead_monitor hpmm hn, hr]; rfl⟩,
    hstored, hone⟩

/-- The numbers for both moves of the Performance Monitor's registers (R66). -/
def monitorNumbers : List (BitVec 10) := [786, 787, 788, 789, 790, 791, 792, 795, 796, 797, 798]

/-- The registers of the Performance Monitor by number, of which MMCR0, SIAR and SDAR are told apart. -/
theorem perfSpr_of_mem {n : BitVec 10} (hn : n ∈ monitorNumbers) :
    (784 ≤ n.toNat ∧ n.toNat < 800) ∧ ∃ r, perfSpr (n.toNat - 784) = some r
      ∧ (r = .mmcr0 ↔ n = 795) ∧ (r = .siar → n = 796) ∧ (r = .sdar → n = 797) := by
  simp only [monitorNumbers, List.mem_cons, List.not_mem_nil, or_false] at hn
  rcases hn with rfl | rfl | rfl | rfl | rfl | rfl | rfl | rfl | rfl | rfl | rfl <;> simp [perfSpr]

/-! ### Reading a register after writing it -/

theorem zext_low_and (v : Word) (m : Half) : zext (low v &&& m) = v &&& zext m := by
  ext i hi
  by_cases h : i < 32
  · simp [zext, low, h, BitVec.getLsbD_eq_getElem, hi]
  · have hm : m.getLsbD i = false := BitVec.getLsbD_of_ge m i (by omega)
    simp [zext, low, h, hm]

theorem zext_low (v : Word) : zext (low v) = v &&& 0xFFFFFFFF := by
  have h := zext_low_and v (BitVec.allOnes 32)
  rwa [BitVec.and_allOnes] at h

/-- A register with one number gives back the bits that it stores; SIAR and SDAR where nothing alters them. -/
theorem State.readSpr_writeSpr (s : State) {r : Spr} (v : Word) (h1 : r.hasOneNumber = true)
    (hs : r = .siar ∨ r = .sdar → s.sampleUndefined = false) : (s.writeSpr r v).readSpr r = v &&& r.storedBits s.cfg := by
  cases r with
  | ctrl | tbl | tbu | pvr | pir => cases h1
  | dsisr | dec | hdec | lpidr => exact zext_low v
  | pmc i => exact (congrArg zext (Vector.getElem_set_self _)).trans (zext_low v)
  | ear => exact zext_low_and v earMask
  | xer | sdr1 | accr | rmor | hrmor | lpcr | mmcra | mmcr0 | dabrx => rfl
  | siar =>
    have hdefined : (s.writeSpr .siar v).siarUndefined = false := by
      show (s.sampleUndefined || (s.run.siarStale && s.sampleUndefined)) = false
      simp [hs]
    rw [State.readSpr, hdefined]
    exact BitVec.and_allOnes.symm
  | sdar =>
    have hdefined : (s.writeSpr .sdar v).sdarUndefined = false := by
      show (s.sampleUndefined || (s.run.sdarStale && s.sampleUndefined)) = false
      simp [hs]
    rw [State.readSpr, hdefined]
    exact BitVec.and_allOnes.symm
  | _ => exact BitVec.and_allOnes.symm

@[simp] theorem State.writeSpr_msr (s : State) (r : Spr) (v : Word) : (s.writeSpr r v).msr = s.msr := by
  cases r <;> rfl

@[simp] theorem State.writeSpr_cfg (s : State) (r : Spr) (v : Word) : (s.writeSpr r v).cfg = s.cfg := by
  cases r <;> rfl

theorem State.writeSpr_mmcr0 (s : State) {r : Spr} (v : Word) (h : r ≠ .mmcr0) :
    (s.writeSpr r v).pm.mmcr0 = s.pm.mmcr0 := by
  cases r with
  | mmcr0 => exact absurd rfl h
  | _ => rfl

/-! ### What a write sets off -/

/-- With nothing enabled an evaluation of conditions and events changes nothing (R590). -/
theorem State.pmEvaluate_of_quiet {s : State} (h : monitorQuiet s.pm.mmcr0) (p : Sample) : s.pmEvaluate false p = s := by
  obtain ⟨-, h48, h49, h50⟩ := h
  have hnone : s.counterNegative = false := by simp [State.counterNegative, State.mmcr0, h48, h49]
  have hkept (n : Bool) : triggered s.pm.mmcr0 n false = s.pm.mmcr0 := by simp [triggered, h50]
  unfold State.pmEvaluate
  simp [hnone, hkept]

theorem monitorQuiet.and {v : Word} (h : monitorQuiet v) (m : Word) : monitorQuiet (v &&& m) := by
  obtain ⟨h41, h48, h49, h50⟩ := h
  simp [monitorQuiet, bit_and, h41, h48, h49, h50]

/-- A write sets nothing off if the register is none of the Performance Monitor's, or leaves nothing enabled there. -/
theorem State.afterSprWrite_of_quiet {s : State} {r : Spr} (h1 : r.hasOneNumber = true)
    (h : r.isMonitor = true → monitorQuiet s.pm.mmcr0) (old : Word) (p : Sample) : s.afterSprWrite r old p = s := by
  cases r with
  | mmcra | pmc _ | mmcr0 | siar | sdar | mmcr1 => exact State.pmEvaluate_of_quiet (h rfl) p
  | tbl | tbu => cases h1
  | _ => rfl

/-! ### The two moves -/

theorem State.sprPrivilege_of_hypervisor {s : State} (h : s.hypervisor = true) (p : Privilege) (f : Result) :
    s.sprPrivilege p f = f := by
  have hstate : s.problem = false ∧ s.supervisor = false := by
    simp_all [State.hypervisor, State.problem, State.supervisor]
  cases p <;> simp [State.sprPrivilege, State.privileged, hstate]

theorem State.moveToSpr_next {s t : State} {r : Spr} {v : Word} (h : s.moveToSpr r v = .next t) :
    t = (s.advance.writeSpr r v).afterSprWrite r s.time.tb ⟨s.cia, s.msr, none⟩ := by
  unfold State.moveToSpr at h
  split at h
  · cases h
  · dsimp only at h
    split at h
    · exact (State.alter_next.mp h).2
    · cases h
      rfl

/-- The second move reads the register that the first has written, when the write sets nothing off. -/
theorem mfspr_after_mtspr {n : BitVec 10} {r : Spr} {rs : Reg} {s t : State} (rt : Reg) (hn : OneNumber s.cfg n r)
    (hhv : s.hypervisor = true)
    (hquiet : r.isMonitor = true → monitorQuiet (s.advance.writeSpr r (s.readGpr rs)).pm.mmcr0)
    (hsample : r = .siar ∨ r = .sdar → s.sampleUndefined = false) (ht : exec (.mtspr n rs) s = .next t) :
    ∃ u, exec (.mfspr rt n) t = .next u ∧ u.readGpr rt = s.readGpr rs &&& sprStored s.cfg n.toNat := by
  obtain ⟨⟨p, hwrite⟩, ⟨q, hread⟩, hstored, hone⟩ := hn
  have hw : t = s.advance.writeSpr r (s.readGpr rs) := by
    change execMtspr n rs s = _ at ht
    simp only [execMtspr, hwrite, State.sprPrivilege_of_hypervisor hhv] at ht
    rw [State.moveToSpr_next ht, State.afterSprWrite_of_quiet hone hquiet]
  have hhv' : t.hypervisor = true := by rw [hw]; simpa [State.hypervisor] using hhv
  have hread' : sprForRead t.cfg n = some (r, q) := by rw [hw]; simpa using hread
  refine ⟨(t.advance.setGpr rt (t.readSpr r)).drawn (t.sprDraws r), ?_, ?_⟩
  · show execMfspr rt n t = _
    simp only [execMfspr, hread', State.sprPrivilege_of_hypervisor hhv']
  · rw [State.readGpr_drawn, State.readGpr_setGpr, if_pos rfl, hw, hstored]
    exact State.readSpr_writeSpr s.advance _ hone hsample

/-- Settles O42: each number names one register for both moves, and a quiet Performance Monitor leaves it as written. -/
theorem mtsprThenMfspr : Obligations.MtsprThenMfspr := by
  intro n rs rt s t hhv plain monitor hn ht
  obtain hplain | ⟨rfl, hear⟩ | ⟨hpmm, hmonitor, hsample⟩ := hn
  · obtain ⟨r, hr, hno⟩ := oneNumber_plain s.cfg hplain
    refine mfspr_after_mtspr rt hr hhv (by simp [hno]) ?_ ht
    rintro (rfl | rfl) <;> cases hno
  · exact mfspr_after_mtspr rt (oneNumber_ear hear) hhv (fun h => by cases h) (by simp) ht
  · have hmem : n ∈ monitorNumbers := by
      obtain ⟨hother, -⟩ | ⟨rfl, -⟩ := hmonitor
      · exact (by simp [monitor, monitorNumbers] : monitor ⊆ monitorNumbers) hother
      · decide
    obtain ⟨hrange, r, hr, hmmcr0, hsiar, hsdar⟩ := perfSpr_of_mem hmem
    refine mfspr_after_mtspr rt (oneNumber_monitor hpmm hrange hr) hhv (fun _ => ?_) (fun h => hsample (h.imp hsiar hsdar)) ht
    obtain ⟨hother, hold⟩ | ⟨hn, hnew⟩ := hmonitor
    · have hne : r ≠ .mmcr0 := fun h => absurd (hmmcr0.mp h ▸ hother) (by decide)
      rw [State.writeSpr_mmcr0 _ _ hne]
      exact hold
    · rw [hmmcr0.mpr hn]
      exact hnew.and mmcr0Mask

end Sys2Proof.Machine
end

section
/-! PROOFS. Moves to and from Special Purpose Registers, number by number (O16, O36, O38, O41). -/

namespace Sys2Proof.Machine

/-! ### Program interrupts (R481) -/

/-- A Program interrupt in the terms of the statements: CIA needs no truncation, and SRR1 takes the one bit of the cause. -/
theorem State.program_eq (s : State) (k : ProgramKind) : s.program k = s.programInterrupt (programInfo k) := by
  have hcause : programInfo k &&& infoMask = programInfo k := by cases k <;> decide
  have hsrr1 : srr1Of s.msr (programInfo k) = (s.msr &&& ~~~0x783F0000) ||| programInfo k := by
    rw [srr1Of, insertBits, hcause, infoMask]
  show { s with nia := _, msr := _, spr := { s.spr with srr0 := ea32 s.msr s.cia, srr1 := _ }, run := _ } = _
  rw [State.ea32_cia, hsrr1]
  rfl

theorem State.raise_eq (s : State) (k : ProgramKind) : s.raise k = .next (s.programInterrupt (programInfo k)) := by
  rw [State.raise, State.program_eq]

/-! ### The table of R66 by number -/

/-- The numbers in the `mtspr` column of R66 of each privilege. -/
def writeColumn (c : Params) : Privilege → List (BitVec 10)
  | .no => [1, 8, 9]
  | .yes => [18, 19, 22, 26, 27, 29, 152, 272, 273, 274, 275] ++ if c.hasPmm then monitorNumbers else []
  | .hypv => [25, 284, 285, 304, 305, 309, 310, 312, 313, 314, 315, 318, 319, 1013, 1015] ++ if c.hasEar then [282] else []

/-- The numbers of the Performance Monitor's registers that any program may read (R64, R66). -/
def monitorReadNumbers : List (BitVec 10) := [770, 771, 772, 773, 774, 775, 776, 779, 780, 781, 782]

/-- The numbers in the `mfspr` column of R66 of each privilege. -/
def readColumn (c : Params) : Privilege → List (BitVec 10)
  | .no => [1, 8, 9, 136, 259] ++ if c.hasPmm then monitorReadNumbers else []
  | .yes => [18, 19, 22, 25, 26, 27, 29, 272, 273, 274, 275, 287, 309, 310, 1013, 1015, 1023] ++
      (if c.hasEar then [282] else []) ++ if c.hasPmm then monitorNumbers else []
  | .hypv => [304, 305, 312, 313, 314, 315, 318, 319]

theorem eq_of_toNat {n : BitVec 10} {k : Nat} (h : n.toNat = k) : n = BitVec.ofNat 10 k := by
  rw [← h, BitVec.ofNat_toNat, BitVec.setWidth_eq]

theorem commonSpr_columns (c : Params) {n : BitVec 10} {r : Spr} {p q : Privilege}
    (h : commonSpr n.toNat = some (r, p, q)) : n ∈ writeColumn c p ∧ n ∈ readColumn c q := by
  unfold commonSpr at h
  split at h <;> cases h
  all_goals
    rename_i hn
    rw [eq_of_toNat hn]
    simp [writeColumn, readColumn]

/-- The registers of the Performance Monitor stand at the same places from 768 and from 784 on (R64). -/
theorem perfSpr_numbers {n : BitVec 10} {base : Nat} {r : Spr} (hlo : base ≤ n.toNat)
    (h : perfSpr (n.toNat - base) = some r) :
    (base = 784 → n ∈ monitorNumbers) ∧ (base = 768 → n ∈ monitorReadNumbers) := by
  obtain ⟨k, hk⟩ : ∃ k, n.toNat = base + k := ⟨n.toNat - base, by omega⟩
  rw [eq_of_toNat hk]
  rw [show n.toNat - base = k by omega] at h
  unfold perfSpr at h
  constructor <;> rintro rfl <;> split at h <;> simp_all [monitorNumbers, monitorReadNumbers]

theorem provided_eq_some {has : Bool} {x : Option Spr} {p q : Privilege} {r : Spr} :
    provided has x p = some (r, q) ↔ has = true ∧ x = some r ∧ p = q := by
  cases has <;> cases x <;> simp [provided]

/-- The numbers defined for `mtspr` are those of its columns. -/
theorem mem_writeColumn_of_sprForWrite {c : Params} {n : BitVec 10} {r : Spr} {p : Privilege}
    (h : sprForWrite c n = some (r, p)) : n ∈ writeColumn c p := by
  unfold sprForWrite at h
  split at h
  · cases h
    exact (commonSpr_columns c ‹_›).1
  · split at h
    case h_1 hn => cases h; simp [eq_of_toNat hn, writeColumn]
    case h_2 hn =>
      obtain ⟨hear, -, rfl⟩ := provided_eq_some.mp h
      simp [eq_of_toNat hn, writeColumn, hear]
    case h_3 hn => cases h; simp [eq_of_toNat hn, writeColumn]
    case h_4 hn => cases h; simp [eq_of_toNat hn, writeColumn]
    case h_5 =>
      split at h
      · obtain ⟨hpmm, hr, rfl⟩ := provided_eq_some.mp h
        simp [writeColumn, hpmm, (perfSpr_numbers (by omega) hr).1 rfl]
      · cases h

theorem mem_readColumn_of_sprForRead {c : Params} {n : BitVec 10} {r : Spr} {p : Privilege}
    (h : sprForRead c n = some (r, p)) : n ∈ readColumn c p := by
  unfold sprForRead at h
  split at h
  · cases h
    exact (commonSpr_columns c ‹_›).2
  · split at h
    case h_1 hn => cases h; simp [eq_of_toNat hn, readColumn]
    case h_2 hn => cases h; simp [eq_of_toNat hn, readColumn]
    case h_3 hn =>
      obtain ⟨hear, -, rfl⟩ := provided_eq_some.mp h
      simp [eq_of_toNat hn, readColumn, hear]
    case h_4 hn => cases h; simp [eq_of_toNat hn, readColumn]
    case h_5 hn => cases h; simp [eq_of_toNat hn, readColumn]
    case h_6 =>
      split at h
      · obtain ⟨hpmm, hr, rfl⟩ := provided_eq_some.mp h
        simp [readColumn, hpmm, (perfSpr_numbers (by omega) hr).2 rfl]
      · split at h
        · obtain ⟨hpmm, hr, rfl⟩ := provided_eq_some.mp h
          simp [readColumn, hpmm, (perfSpr_numbers (by omega) hr).1 rfl]
        · cases h

/-- Every number of a `mtspr` column is defined, with the privilege of its column. -/
theorem sprForWrite_of_mem {c : Params} {n : BitVec 10} {p : Privilege} (h : n ∈ writeColumn c p) :
    ∃ r, sprForWrite c n = some (r, p) := by
  cases p with
  | no =>
    simp only [writeColumn, List.mem_cons, List.not_mem_nil, or_false] at h
    rcases h with rfl | rfl | rfl <;> exact ⟨_, rfl⟩
  | yes =>
    rcases List.mem_append.mp h with h | h
    · simp only [List.mem_cons, List.not_mem_nil, or_false] at h
      rcases h with rfl | rfl | rfl | rfl | rfl | rfl | rfl | rfl | rfl | rfl | rfl <;> exact ⟨_, rfl⟩
    · obtain ⟨hpmm, hn⟩ := List.mem_ite_nil_right.mp h
      obtain ⟨hrange, r, hr, -⟩ := perfSpr_of_mem hn
      exact ⟨r, by rw [sprForWrite_monitor hpmm hrange, hr]; rfl⟩
  | hypv =>
    rcases List.mem_append.mp h with h | h
    · simp only [List.mem_cons, List.not_mem_nil, or_false] at h
      rcases h with rfl | rfl | rfl | rfl | rfl | rfl | rfl | rfl | rfl | rfl | rfl | rfl | rfl | rfl | rfl <;> exact ⟨_, rfl⟩
    · obtain ⟨hear, hn⟩ := List.mem_ite_nil_right.mp h
      obtain rfl := List.mem_singleton.mp hn
      exact ⟨.ear, by simp [sprForWrite, commonSpr, provided, hear]⟩

/-- The Performance Monitor's registers have a number for any program, 16 below the privileged one (R64, R66). -/
theorem sprForRead_monitorRead {c : Params} (hpmm : c.hasPmm = true) {n : BitVec 10} (hn : 768 ≤ n.toNat ∧ n.toNat < 784) :
    sprForRead c n = (perfSpr (n.toNat - 768)).map fun x => (x, .no) := by
  have hcommon : commonSpr n.toNat = none := by
    obtain ⟨hlo, hhi⟩ := hn
    generalize n.toNat = k at hlo hhi
    interval_cases k <;> rfl
  unfold sprForRead
  rw [hcommon]
  dsimp only
  split
  case h_6 => rw [if_pos hn, hpmm, provided, if_pos rfl]
  all_goals omega

theorem perfSpr_of_mem_read {n : BitVec 10} (hn : n ∈ monitorReadNumbers) :
    (768 ≤ n.toNat ∧ n.toNat < 784) ∧ ∃ r, perfSpr (n.toNat - 768) = some r := by
  simp only [monitorReadNumbers, List.mem_cons, List.not_mem_nil, or_false] at hn
  rcases hn with rfl | rfl | rfl | rfl | rfl | rfl | rfl | rfl | rfl | rfl | rfl <;> simp [perfSpr]

/-- Every number of a `mfspr` column is defined, with the privilege of its column. -/
theorem sprForRead_of_mem {c : Params} {n : BitVec 10} {p : Privilege} (h : n ∈ readColumn c p) :
    ∃ r, sprForRead c n = some (r, p) := by
  cases p with
  | no =>
    rcases List.mem_append.mp h with h | h
    · simp only [List.mem_cons, List.not_mem_nil, or_false] at h
      rcases h with rfl | rfl | rfl | rfl | rfl <;> exact ⟨_, rfl⟩
    · obtain ⟨hpmm, hn⟩ := List.mem_ite_nil_right.mp h
      obtain ⟨hrange, r, hr⟩ := perfSpr_of_mem_read hn
      exact ⟨r, by rw [sprForRead_monitorRead hpmm hrange, hr]; rfl⟩
  | yes =>
    rcases List.mem_append.mp h with h | h
    · rcases List.mem_append.mp h with h | h
      · simp only [List.mem_cons, List.not_mem_nil, or_false] at h
        rcases h with rfl | rfl | rfl | rfl | rfl | rfl | rfl | rfl | rfl | rfl | rfl | rfl | rfl | rfl | rfl | rfl | rfl
          <;> exact ⟨_, rfl⟩
      · obtain ⟨hear, hn⟩ := List.mem_ite_nil_right.mp h
        obtain rfl := List.mem_singleton.mp hn
        exact ⟨.ear, by simp [sprForRead, commonSpr, provided, hear]⟩
    · obtain ⟨hpmm, hn⟩ := List.mem_ite_nil_right.mp h
      obtain ⟨hrange, r, hr, -⟩ := perfSpr_of_mem hn
      exact ⟨r, by rw [sprForRead_monitor hpmm hrange, hr]; rfl⟩
  | hypv =>
    simp only [readColumn, List.mem_cons, List.not_mem_nil, or_false] at h
    rcases h with rfl | rfl | rfl | rfl | rfl | rfl | rfl | rfl <;> exact ⟨_, rfl⟩

theorem sprForWrite_eq_none {c : Params} {n : BitVec 10} (h : ∀ p, n ∉ writeColumn c p) : sprForWrite c n = none :=
  Option.eq_none_iff_forall_not_mem.mpr fun x hx => h x.2 (mem_writeColumn_of_sprForWrite (r := x.1) hx)

theorem sprForRead_eq_none {c : Params} {n : BitVec 10} (h : ∀ p, n ∉ readColumn c p) : sprForRead c n = none :=
  Option.eq_none_iff_forall_not_mem.mpr fun x hx => h x.2 (mem_readColumn_of_sprForRead (r := x.1) hx)

/-! ### The privilege test (R340, R341, D18, D38) -/

/-- What the policy makes of a hypervisor resource in state 0b00 (D18, D38). -/
def State.policyResult (s : State) : Result :=
  match s.cfg.hvPolicy with
  | .interrupt => .next (s.programInterrupt privilegedCause)
  | .noop => .next s.advance

theorem State.sprPrivilege_of_problem {s : State} (h : s.problem = true) {p : Privilege} (hp : p ≠ .no) (f : Result) :
    s.sprPrivilege p f = .next (s.programInterrupt privilegedCause) := by
  cases p with
  | no => exact absurd rfl hp
  | yes | hypv => exact (State.privileged_of_problem _ h).trans (s.raise_eq .privileged)

theorem State.sprPrivilege_of_supervisor {s : State} (h : s.supervisor = true) (f : Result) :
    s.sprPrivilege .hypv f = s.policyResult := by
  have hproblem : s.problem = false := by simp_all [State.supervisor, State.problem]
  rw [State.sprPrivilege, State.privileged_of_not_problem _ hproblem, if_pos h, State.policyResult]
  cases s.cfg.hvPolicy with
  | interrupt => exact s.raise_eq .privileged
  | noop => rfl

theorem State.sprPrivilege_yes_of_not_problem {s : State} (h : s.problem = false) (f : Result) :
    s.sprPrivilege .yes f = f := State.privileged_of_not_problem f h

theorem exec_mtspr (n : BitVec 10) (rs : Reg) (s : State) : exec (.mtspr n rs) s = execMtspr n rs s := rfl

theorem exec_mfspr (rt : Reg) (n : BitVec 10) (s : State) : exec (.mfspr rt n) s = execMfspr rt n s := rfl

theorem exec_mtspr_of_sprForWrite {n : BitVec 10} {s : State} {r : Spr} {p : Privilege} (h : sprForWrite s.cfg n = some (r, p))
    (rs : Reg) : exec (.mtspr n rs) s = s.sprPrivilege p (s.moveToSpr r (s.readGpr rs)) := by
  rw [exec_mtspr, execMtspr, h]

theorem exec_mfspr_of_sprForRead {n : BitVec 10} {s : State} {r : Spr} {p : Privilege} (h : sprForRead s.cfg n = some (r, p))
    (rt : Reg) : exec (.mfspr rt n) s =
      s.sprPrivilege p (.next ((s.advance.setGpr rt (s.readSpr r)).drawn (s.sprDraws r))) := by
  rw [exec_mfspr, execMfspr, h]

theorem exec_mtspr_undefined {n : BitVec 10} {s : State} (h : ∀ p, n ∉ writeColumn s.cfg p) (rs : Reg) :
    exec (.mtspr n rs) s = s.undefinedSpr n := by
  rw [exec_mtspr, execMtspr, sprForWrite_eq_none h]

theorem exec_mfspr_undefined {n : BitVec 10} {s : State} (h : ∀ p, n ∉ readColumn s.cfg p) (rt : Reg) :
    exec (.mfspr rt n) s = s.undefinedSpr n := by
  rw [exec_mfspr, execMfspr, sprForRead_eq_none h]

/-- A number of no column, in the terms of the statements (R342, D36). -/
theorem State.undefinedSpr_eq (s : State) (n : BitVec 10) : s.undefinedSpr n =
    match s.cfg.badSprPolicy with
    | .byCase => if n.getLsbD 4 && s.problem then .next (s.programInterrupt privilegedCause)
        else .next (s.programInterrupt illegalCause)
    | .illegal => .next (s.programInterrupt illegalCause)
    | .alternative => if n.getLsbD 4 && s.problem then .next (s.programInterrupt privilegedCause)
        else .refused .undefinedSpr := by
  simp only [State.undefinedSpr, State.raise_eq]
  cases s.cfg.badSprPolicy <;> rfl

theorem exec_mtspr_of_problem {n : BitVec 10} {s : State} {p : Privilege} (hn : n ∈ writeColumn s.cfg p) (hp : p ≠ .no)
    (h : s.problem = true) (rs : Reg) : exec (.mtspr n rs) s = .next (s.programInterrupt privilegedCause) := by
  obtain ⟨r, hr⟩ := sprForWrite_of_mem hn
  rw [exec_mtspr_of_sprForWrite hr, State.sprPrivilege_of_problem h hp]

theorem exec_mfspr_of_problem {n : BitVec 10} {s : State} {p : Privilege} (hn : n ∈ readColumn s.cfg p) (hp : p ≠ .no)
    (h : s.problem = true) (rt : Reg) : exec (.mfspr rt n) s = .next (s.programInterrupt privilegedCause) := by
  obtain ⟨r, hr⟩ := sprForRead_of_mem hn
  rw [exec_mfspr_of_sprForRead hr, State.sprPrivilege_of_problem h hp]

/-- Settles O16: the columns are the numbers that the two tables define, and the privilege of its column decides on each. -/
theorem sprPrivilegeColumns : Obligations.SprPrivilegeColumns := by
  intro n r s ear monitor monitorRead writeNo writeYes writeHypv readNo readYes readHypv privileged policy undefined
  have hpolicy : policy = s.policyResult := rfl
  have hundefined : undefined = s.undefinedSpr n := (s.undefinedSpr_eq n).symm
  have hwrite (hn : n ∉ writeNo ++ writeYes ++ writeHypv) (p : Privilege) : n ∉ writeColumn s.cfg p := by
    simp only [List.mem_append, not_or] at hn
    obtain ⟨⟨hno, hyes⟩, hhypv⟩ := hn
    cases p with
    | no => exact hno
    | yes => exact hyes
    | hypv => exact hhypv
  have hread (hn : n ∉ readNo ++ readYes ++ readHypv) (p : Privilege) : n ∉ readColumn s.cfg p := by
    simp only [List.mem_append, not_or] at hn
    obtain ⟨⟨hno, hyes⟩, hhypv⟩ := hn
    cases p with
    | no => exact hno
    | yes => exact hyes
    | hypv => exact hhypv
  refine ⟨fun hn => ?_, fun hn hp => ?_, fun hn => ⟨fun hp => ?_, fun hs => ?_⟩, fun hn => ?_,
    fun hn => ?_, fun hn hp => ?_, fun hn => ⟨fun hp => ?_, fun hs => ?_⟩, fun hn => ?_⟩
  · simp only [writeNo, List.mem_cons, List.not_mem_nil, or_false] at hn
    rcases hn with rfl | rfl | rfl <;> exact ⟨_, rfl, rfl, rfl⟩
  · exact exec_mtspr_of_problem (p := .yes) hn (by simp) hp r
  · exact exec_mtspr_of_problem (p := .hypv) hn (by simp) hp r
  · obtain ⟨q, hq⟩ := sprForWrite_of_mem (p := .hypv) hn
    rw [hpolicy, exec_mtspr_of_sprForWrite hq, State.sprPrivilege_of_supervisor hs]
  · rw [hundefined, exec_mtspr_undefined (hwrite hn)]
  · obtain ⟨q, hq⟩ := sprForRead_of_mem (p := .no) hn
    exact ⟨_, exec_mfspr_of_sprForRead hq r, rfl, rfl⟩
  · exact exec_mfspr_of_problem (p := .yes) hn (by simp) hp r
  · exact exec_mfspr_of_problem (p := .hypv) hn (by simp) hp r
  · obtain ⟨q, hq⟩ := sprForRead_of_mem (p := .hypv) hn
    rw [hpolicy, exec_mfspr_of_sprForRead hq, State.sprPrivilege_of_supervisor hs]
  · rw [hundefined, exec_mfspr_undefined (hread hn)]

/-! ### Writing a register (R340) -/

/-- A number of the column 'yes' outside problem state writes its register. -/
theorem exec_mtspr_yes {n : BitVec 10} {s t : State} {r : Spr} (hp : s.problem = false)
    (hn : sprForWrite s.cfg n = some (r, .yes)) {rs : Reg} (ht : s.moveToSpr r (s.readGpr rs) = .next t) :
    exec (.mtspr n rs) s = .next t := by
  rw [exec_mtspr_of_sprForWrite hn, State.sprPrivilege_yes_of_not_problem hp, ht]

/-- Settles O36: none of these registers is refused a value, moves the fetch or sets anything off, so the move is its write. -/
theorem mtsprWritesOrdinaryRegisters : Obligations.MtsprWritesOrdinaryRegisters := by
  intro rs s v go
  refine ⟨rfl, rfl, rfl, fun hp => ?_⟩
  refine ⟨?dsisr, ?dar, ?dec, ?srr0, ?srr1, ?accr, ?ctrl, ?sprg0, ?sprg1, ?sprg2, ?sprg3⟩
  all_goals exact exec_mtspr_yes hp rfl rfl

/-- A write to a register of the Performance Monitor that leaves nothing enabled there sets nothing off (R590). -/
theorem State.moveToSpr_monitor {s : State} {r : Spr} (hr : r.isMonitor = true) {v : Word}
    (hquiet : monitorQuiet (s.advance.writeSpr r v).pm.mmcr0) : s.moveToSpr r v = .next (s.advance.writeSpr r v) := by
  have heval : s.moveToSpr r v = .next ((s.advance.writeSpr r v).pmEvaluate false ⟨s.cia, s.msr, none⟩) := by
    cases r with
    | mmcra | pmc _ | mmcr0 | siar | sdar | mmcr1 => rfl
    | _ => cases hr
  rw [heval, State.pmEvaluate_of_quiet hquiet]

theorem exec_mtspr_monitor {n : BitVec 10} {s : State} {r : Spr} (hp : s.problem = false) (hpmm : s.cfg.hasPmm = true)
    (hn : 784 ≤ n.toNat ∧ n.toNat < 800) (hr : perfSpr (n.toNat - 784) = some r) {rs : Reg}
    (hquiet : monitorQuiet (s.advance.writeSpr r (s.readGpr rs)).pm.mmcr0) :
    exec (.mtspr n rs) s = .next (s.advance.writeSpr r (s.readGpr rs)) := by
  have hmonitor : r.isMonitor = true := by
    unfold perfSpr at hr
    split at hr <;> cases hr <;> rfl
  exact exec_mtspr_yes hp (by rw [sprForWrite_monitor hpmm hn, hr]; rfl) (State.moveToSpr_monitor hmonitor hquiet)

/-- PMC(i+1) has the number 787 + i (R64). -/
theorem perfSpr_pmc (i : Fin 6) : (787 + BitVec.ofNat 10 i.val).toNat = 787 + i.val ∧ perfSpr (3 + i.val) = some (.pmc i) := by
  fin_cases i <;> exact ⟨rfl, rfl⟩

/-- Settles O38: with nothing enabled the move is the write of the register. -/
theorem mtsprWritesPerformanceMonitor : Obligations.MtsprWritesPerformanceMonitor := by
  intro rs s hp hpmm v go altering
  refine ⟨fun hquiet => ?_, fun hquiet => ⟨?_, ?_, ?_, ?_, fun i => ?_⟩⟩
  · exact exec_mtspr_monitor (n := 795) (r := .mmcr0) hp hpmm (by simp) (by simp [perfSpr]) (hquiet.and mmcr0Mask)
  · exact exec_mtspr_monitor (n := 786) (r := .mmcra) hp hpmm (by simp) (by simp [perfSpr]) hquiet
  · exact exec_mtspr_monitor (n := 796) (r := .siar) hp hpmm (by simp) (by simp [perfSpr]) hquiet
  · exact exec_mtspr_monitor (n := 797) (r := .sdar) hp hpmm (by simp) (by simp [perfSpr]) hquiet
  · exact exec_mtspr_monitor (n := 798) (r := .mmcr1) hp hpmm (by simp) (by simp [perfSpr]) hquiet
  · obtain ⟨hn, hr⟩ := perfSpr_pmc i
    refine exec_mtspr_monitor (r := .pmc i) hp hpmm (by omega) ?_ hquiet
    rw [hn, show 787 + i.val - 784 = 3 + i.val by omega, hr]

/-! ### Reading a register (R341) -/

/-- A move from a register of any column that the privilege state may read. -/
theorem exec_mfspr_gives {n : BitVec 10} {s : State} {r : Spr} {p : Privilege} (hn : sprForRead s.cfg n = some (r, p))
    (hp : p = .no ∨ p = .yes ∧ s.problem = false ∨ s.hypervisor = true) (rt : Reg) :
    exec (.mfspr rt n) s = .next ((s.advance.setGpr rt (s.readSpr r)).drawn (s.sprDraws r)) := by
  rw [exec_mfspr_of_sprForRead hn]
  obtain rfl | ⟨rfl, hp⟩ | hhv := hp
  · rfl
  · exact State.sprPrivilege_yes_of_not_problem hp _
  · exact State.sprPrivilege_of_hypervisor hhv _ _

theorem toNat_ofNat_add_ofNat {b k : Nat} (h : b + k < 1024) : (BitVec.ofNat 10 b + BitVec.ofNat 10 k).toNat = b + k := by
  rw [← BitVec.ofNat_add, BitVec.toNat_ofNat, Nat.mod_eq_of_lt h]

/-- Settles O41: the table gives each number its register, and the statement's values are what `readSpr` gives. -/
theorem mfsprReadsRegisters : Obligations.MfsprReadsRegisters := by
  intro rt s result gives free altering monitor
  have hsample (n : BitVec 10) (isUndefined : Bool) (any v : Word)
      (h : exec (.mfspr rt n) s = result (if isUndefined then any else v) (if isUndefined then 1 else 0)) :
      if isUndefined then free n else gives n v := by
    cases isUndefined
    · exact h
    · exact ⟨any, h⟩
  have hmonitor (base : BitVec 10) (hbase : ∀ k r, k < 16 → perfSpr k = some r →
      exec (.mfspr rt (base + BitVec.ofNat 10 k)) s =
        .next ((s.advance.setGpr rt (s.readSpr r)).drawn (s.sprDraws r))) : monitor base := by
    refine ⟨hbase 2 .mmcra (by decide) rfl, hbase 11 .mmcr0 (by decide) rfl, hbase 14 .mmcr1 (by decide) rfl, ?_, ?_, fun i => ?_⟩
    · exact hsample _ s.siarUndefined _ _ (hbase 12 .siar (by decide) rfl)
    · exact hsample _ s.sdarUndefined _ _ (hbase 13 .sdar (by decide) rfl)
    · have hpmc := hbase (3 + i.val) (.pmc i) (by omega) (perfSpr_pmc i).2
      rw [BitVec.ofNat_add, ← BitVec.add_assoc] at hpmc
      exact hpmc
  have hgives {p : Privilege} (hread : p = .no ∨ p = .yes ∧ s.problem = false ∨ s.hypervisor = true) {n : BitVec 10}
      {r : Spr} {v : Word} (hn : sprForRead s.cfg n = some (r, p)) (hv : s.readSpr r = v) (hdraws : s.sprDraws r = 0) :
      gives n v := by
    rw [← hv]
    exact (exec_mfspr_gives hn hread rt).trans (by rw [hdraws]; rfl)
  refine ⟨rfl, rfl, rfl, rfl, rfl, fun hpmm => ?_, fun hp => ?_, fun hhv => ?_⟩
  · refine hmonitor 768 fun k r hk hr => exec_mfspr_gives ?_ (.inl rfl) rt
    have hn : (768 + BitVec.ofNat 10 k).toNat = 768 + k := toNat_ofNat_add_ofNat (b := 768) (by omega)
    rw [sprForRead_monitorRead hpmm (by omega), hn, Nat.add_sub_cancel_left, hr]
    rfl
  · have hyes {n : BitVec 10} {r : Spr} {v : Word} := hgives (.inr (.inl ⟨rfl, hp⟩)) (n := n) (r := r) (v := v)
    refine ⟨hyes rfl rfl rfl, hyes rfl rfl rfl, hyes rfl rfl rfl, hyes rfl rfl rfl, hyes rfl rfl rfl, hyes rfl rfl rfl,
      hyes rfl rfl rfl, hyes rfl rfl rfl, hyes rfl rfl rfl, hyes rfl rfl rfl, hyes rfl rfl rfl, hyes rfl rfl rfl,
      hyes rfl rfl rfl, hyes rfl rfl rfl, hyes rfl rfl rfl, hyes rfl rfl rfl, hyes rfl rfl rfl, fun hear => ?_, fun hpmm => ?_⟩
    · exact hyes (r := .ear) (by simp [sprForRead, commonSpr, provided, hear]) rfl rfl
    · refine hmonitor 784 fun k r hk hr => exec_mfspr_gives ?_ (.inr (.inl ⟨rfl, hp⟩)) rt
      have hn : (784 + BitVec.ofNat 10 k).toNat = 784 + k := toNat_ofNat_add_ofNat (b := 784) (by omega)
      rw [sprForRead_monitor hpmm (by omega), hn, Nat.add_sub_cancel_left, hr]
      rfl
  · have hhypv {n : BitVec 10} {r : Spr} {v : Word} := hgives (p := .hypv) (.inr (.inr hhv)) (n := n) (r := r) (v := v)
    exact ⟨hhypv rfl rfl rfl, hhypv rfl rfl rfl, hhypv rfl rfl rfl, hhypv rfl rfl rfl, hhypv rfl rfl rfl, hhypv rfl rfl rfl,
      hhypv rfl rfl rfl, hhypv rfl rfl rfl⟩

end Sys2Proof.Machine
end

section
/-! PROOFS. The state after reset (O8, O9), and a power-on System Reset (O19). -/

namespace Sys2Proof.Machine

/-! ### The state after reset (R120) -/

theorem reservedZero_reset : State.reset.ReservedZero := by
  constructor <;> decide

/-- Settles O8: storage is empty, no register holds a reserved bit, and the processor is not in problem state. -/
theorem resetSatisfiesInvariant : Obligations.ResetSatisfiesInvariant where
  mem := Memory.wf_reset
  nia := by decide
  problem := problemOk_of_not_pr (by decide)
  slb := List.length_replicate
  reserved := reservedZero_reset

/-- Settles O9: the fetch address is that of hypervisor real mode, offset by the HRMOR. -/
theorem resetValues : Obligations.ResetValues := by
  refine ⟨by decide, rfl, by decide, rfl, rfl, ?_⟩
  have hpath : State.reset.path (ir State.reset.msr) (ea32 State.reset.msr State.reset.nia) =
      .real (0x100 ||| (Params.default.hrmorReset).extractLsb' 0 62) := by decide
  rw [State.fetchAddress, hpath]

/-! ### Reserved bits under counting and ticks -/

/-- The reserved bits of MMCR0 and MMCRA are 0 (R586, R589). -/
def Perf.ReservedZero (p : Perf) : Prop := p.mmcr0 &&& ~~~mmcr0Mask = 0 ∧ p.mmcra &&& ~~~mmcraMask = 0

theorem State.pmEvaluate_reservedZero {s : State} (h : s.pm.ReservedZero) (event : Bool) (p : Sample) :
    (s.pmEvaluate event p).pm.ReservedZero := by
  obtain ⟨hmmcr0, hmmcra⟩ := h
  have htriggered := triggered_and_not hmmcr0 (hbit s.pm.pmc[0] 0) (s.counterNegative || event)
  unfold State.pmEvaluate
  split
  · dsimp only
    split
    · exact ⟨setBit_and_not _ (setBit_and_not _ htriggered (by decide)) (by decide),
        setBit_and_not _ (setBit_and_not _ (setBit_and_not _ hmmcra (by decide)) (by decide)) (by decide)⟩
    · exact ⟨htriggered, hmmcra⟩
  · exact ⟨hmmcr0, hmmcra⟩

theorem State.ticks_reservedZero {s : State} (h : s.pm.ReservedZero) (n : Nat) : (s.ticks n).pm.ReservedZero := by
  induction n generalizing s with
  | zero => exact h
  | succ n ih =>
    have htick : s.tick.pm.ReservedZero := by
      unfold State.tick
      apply State.pmEvaluate_reservedZero
      exact h
    exact ih htick

theorem State.elapse_reservedZero {t : State} (h : t.pm.ReservedZero) (old : State) (i : Input) (c : Option Executed) :
    (t.elapse old i c).pm.ReservedZero := by
  have hcount : (t.count old.msr ⟨c, i.events⟩).pm.ReservedZero := by
    obtain ⟨pmc, he⟩ := t.count_eq old.msr ⟨c, i.events⟩
    rw [he]
    exact h
  have hticks := State.ticks_reservedZero (State.pmEvaluate_reservedZero hcount false (t.count old.msr ⟨c, i.events⟩).lastSample)
  unfold State.elapse State.afterTracing
  dsimp only
  split <;> exact hticks _

/-- The registers other than the Performance Monitor's are as they were before counting and ticks. -/
theorem State.ReservedZero.elapse {t : State} (h : t.ReservedZero) (old : State) (i : Input) (c : Option Executed) :
    (t.elapse old i c).ReservedZero := by
  have hpm := State.elapse_reservedZero ⟨h.mmcr0, h.mmcra⟩ old i c
  obtain ⟨time, pm, run, he, -⟩ := t.elapse_eq old i c
  rw [he] at hpm ⊢
  exact { h with mmcr0 := hpm.1, mmcra := hpm.2 }

/-! ### A power-on System Reset (R620) -/

theorem State.undefinedRegisters_reservedZero (s : State) : s.undefinedRegisters.ReservedZero where
  msr := by rw [State.undefinedRegisters_cfg]; exact masked_and_not _ _
  xer := masked_and_not _ _
  lpcr := by rw [State.undefinedRegisters_cfg]; exact masked_and_not _ _
  rmor := masked_and_not _ _
  hrmor := masked_and_not _ _
  ctrl := masked_and_not _ _
  sdr1 := by rw [State.undefinedRegisters_cfg]; exact masked_and_not _ _
  accr := masked_and_not _ _
  dabrx := masked_and_not _ _
  ear := masked_and_not _ _
  mmcr0 := masked_and_not _ _
  mmcra := masked_and_not _ _

/-- A System Reset interrupt sets SF and HV, whatever ME is (R452). -/
theorem newMsr_systemReset_or_me (c : Params) (lpcr old : Word) :
    newMsr c lpcr .systemReset old ||| 0x1000 = 0x9000000000001000 := by
  have hmsr : newMsr c lpcr .systemReset old = 0x9000000000000000 ||| bitIf 51 (me old) := by
    have hfixed : newMsr c lpcr .systemReset old =
        bitIf 0 true ||| bitIf 3 true ||| bitIf 51 (me old) ||| bitIf 62 false ||| bitIf 63 (c.hasLe && false && ile lpcr) := rfl
    rw [hfixed, Bool.and_false, Bool.false_and]
    cases me old <;> decide
  rw [hmsr]
  cases me old <;> decide

/-- Another agent's stores alter storage, and may end the reservation. -/
theorem State.foreignStores_eq (s : State) (cs : List (RealAddr × Byte)) : ∃ r, s.foreignStores cs =
    { s with mem := Memory.writeAll s.mem cs, bookI := { s.bookI with reservation := r } } := by
  unfold State.foreignStores
  generalize Memory.writeAll s.mem cs = m
  suffices h : ∀ r : Option RealAddr, ∃ r',
      cs.foldl (fun (t : State) c => t.loseReservation c.1) { s with mem := m, bookI := { s.bookI with reservation := r } } =
        { s with mem := m, bookI := { s.bookI with reservation := r' } } from h s.bookI.reservation
  induction cs with
  | nil => exact fun r => ⟨r, rfl⟩
  | cons c cs ih => exact fun r => ih _

/-- What the environment does before a step leaves the registers alone. -/
theorem State.present_eq (s : State) : ∃ bookI tlb run, s.present = { s with
    pend := s.pend.present s.input, mem := Memory.writeAll s.mem s.input.stores, bookI := bookI, tlb := tlb, run := run }
      ∧ run.trapped = false := by
  unfold State.present
  obtain ⟨r, he⟩ := State.foreignStores_eq { s with
    pend := _, tlb := _, run := { s.run with inputs := _, tlbFill := _, overflow := _, trapped := false, opEa := none, uses := []
                                             contexts := _ } } s.input.stores
  exact ⟨_, _, _, he, rfl⟩

section Present
variable (s : State)

@[simp] theorem State.present_msr : s.present.msr = s.msr := by
  obtain ⟨b, tlb, run, he, -⟩ := s.present_eq
  rw [he]

@[simp] theorem State.present_spr : s.present.spr = s.spr := by
  obtain ⟨b, tlb, run, he, -⟩ := s.present_eq
  rw [he]

@[simp] theorem State.present_cfg : s.present.cfg = s.cfg := by
  obtain ⟨b, tlb, run, he, -⟩ := s.present_eq
  rw [he]

@[simp] theorem State.present_mem : s.present.mem = Memory.writeAll s.mem s.input.stores := by
  obtain ⟨b, tlb, run, he, -⟩ := s.present_eq
  rw [he]

@[simp] theorem State.present_pend : s.present.pend = s.pend.present s.input := by
  obtain ⟨b, tlb, run, he, -⟩ := s.present_eq
  rw [he]

end Present

/-- A reset that is presented is taken at once, before everything else (R501 step 1). -/
theorem step_of_sysReset {s : State} {i : Input} {rest : List Input} {k : ResetKind} (hi : s.run.inputs = i :: rest)
    (hk : i.sysReset = some k) : step s = .next ((s.present.systemReset k).elapse s.present i none) := by
  have hinput : s.input = i := by simp [State.input, hi]
  have hpend : s.present.pend.sysReset = some k := by simp [Pending.present, hinput, hk]
  rw [step, State.boundary, hpend, hinput]

/-- SRR1[42:44] of a reset hold the platform's value (R461). -/
theorem field_insert_resetInfo (u : Word) (x : BitVec 3) :
    field (setBit (insertBits u (resetInfo x) (mask 42 44)) 62 false) 42 3 = x := by
  have hbit (y : Word) (i : Nat) (hi : i < 3) : (field y 42 3).getLsbD i = bit y (44 - i) := by
    rw [field, BitVec.getLsbD_extractLsb', bit]
    simp [hi, show 63 - (44 - i) = 19 + i by omega]
  apply BitVec.eq_of_getLsbD_eq
  intro i hi
  have hmask : bit (mask 42 44) (44 - i) = true := by interval_cases i <;> decide
  rw [hbit _ i hi, bit_setBit _ _ (by omega) (by omega), if_neg (by omega), bit_insertBits _ _ _ (by omega), if_pos hmask, bit,
    show 63 - (44 - i) = 19 + i by omega, resetInfo]
  simp [show 19 + i < 64 by omega]

/-- At power-on: every register undefined, then the interrupt; SRR0 keeps its undefined value (R461, R620). -/
theorem State.systemReset_powerOn (s : State) : ∃ u : State,
    u = State.undefinedRegisters { s with checkstop := false, pend := ⟨none, none, s.pend.external⟩ }
      ∧ s.systemReset .powerOn = { u with
          nia := 0x100, msr := newMsr u.cfg u.spr.lpcr .systemReset u.msr, run := { u.run with trapped := true }
          spr := { u.spr with
            srr1 := setBit (insertBits u.spr.srr1 (resetInfo s.cfg.sresetInfoPowerOn) (mask 42 44)) 62 false } } :=
  ⟨_, rfl, rfl⟩

/-- Settles O19: every register takes a value of the bits it stores, then the interrupt fixes MSR, NIA and SRR1; counting and
ticks leave them alone. -/
theorem powerOnStep : Obligations.PowerOnStep := by
  intro s i rest hi hk
  refine ⟨_, step_of_sysReset hi hk, ?_⟩
  obtain ⟨u, hu, hreset⟩ := s.present.systemReset_powerOn
  have hcfg : u.cfg = s.cfg := by rw [hu, State.undefinedRegisters_cfg, State.present_cfg]
  have hregisters : u.ReservedZero := hu ▸ State.undefinedRegisters_reservedZero _
  have hzero : (s.present.systemReset .powerOn).ReservedZero := by
    rw [hreset]
    exact { hregisters with msr := newMsr_and_not _ _ _ _ }
  have hzero' := hzero.elapse s.present i none
  obtain ⟨time, pm, run, he, -⟩ := (s.present.systemReset .powerOn).elapse_eq s.present i none
  rw [he, hreset] at hzero' ⊢
  refine ⟨rfl, newMsr_systemReset_or_me _ _ _, ?_, ?_, ?_, ?_, hzero', ?_, fun hstores hkept => ?_⟩
  · show u.spr.hrmor = _
    rw [hu, ← s.present_cfg]
    rfl
  · exact (bit_setBit _ _ (by decide) (by decide)).trans (if_pos rfl)
  · rw [← s.present_cfg]
    exact field_insert_resetInfo _ _
  · show u.checkstop = false
    rw [hu]
    rfl
  · show u.slb.length = _
    rw [hu, ← s.present_cfg]
    simp [State.undefinedRegisters]
  · show u.mem = _
    have hinput : s.input = i := by simp [State.input, hi]
    have hmem : u.mem = if s.present.cfg.powerOnStorage then Memory.writeAll [] (Config.freeStorage s.present.run.draws)
        else s.present.mem := by rw [hu]; rfl
    rw [hmem, State.present_cfg, hkept, State.present_mem, hinput, hstores]
    rfl

end Sys2Proof.Machine
end

section
/-! PROOFS. What an instruction and a step do to the MSR (O10, O11), and the registers that privilege protects (O13). -/

namespace Sys2Proof.Machine

/-! ### The bits HV, ME and PR of a new MSR (R38, R452) -/

theorem hv_newMsr (c : Params) (lpcr : Word) (k : IntKind) (old : Word) :
    hv (newMsr c lpcr k old) = (setsHv lpcr k || hv old) := by
  simp [hv, newMsr, bit_or, bit_bitIf]

theorem me_newMsr (c : Params) (lpcr : Word) (k : IntKind) (old : Word) :
    me (newMsr c lpcr k old) = (k != .machineCheck && me old) := by
  simp [me, newMsr, bit_or, bit_bitIf]

/-- Bits that are neither forced nor reserved stay as they are. -/
theorem bit_forceBits_and_msrMask (c : Params) (m x : Word) {i : Nat} (hi : i = 3 ∨ i = 51) :
    bit (forceBits m x &&& msrMask c) i = bit m i := by
  have hmask : bit (msrMask c) i = true := bit_msrMask c (by rcases hi with rfl | rfl <;> decide)
  rcases hi with rfl | rfl <;> simp [forceBits, bit_and, bit_setBit, hmask]

theorem hv_rfidMsr (c : Params) (old x : Word) : hv (rfidMsr c old x) = (hv old && bit x 3) := by
  rw [hv, rfidMsr, bit_forceBits_and_msrMask _ _ _ (.inl rfl), bit_setBit _ _ (by decide) (by decide), if_pos rfl]

theorem me_rfidMsr_of_not_hv (c : Params) {old : Word} (x : Word) (h : hv old = false) : me (rfidMsr c old x) = me old := by
  rw [me, rfidMsr, bit_forceBits_and_msrMask _ _ _ (.inr rfl)]
  simp [bit_setBit, h, me]

theorem hv_me_mtmsrdMsr (c : Params) (old x : Word) :
    hv (mtmsrdMsr c old x) = hv old ∧ me (mtmsrdMsr c old x) = me old := by
  have h3 : bit (mask 1 2 ||| mask 4 47 ||| mask 49 50 ||| mask 52 57 ||| mask 60 63) 3 = false := by decide
  have h51 : bit (mask 1 2 ||| mask 4 47 ||| mask 49 50 ||| mask 52 57 ||| mask 60 63) 51 = false := by decide
  constructor
  · rw [hv, mtmsrdMsr, bit_forceBits_and_msrMask _ _ _ (.inl rfl)]
    simp [bit_setBit, bit_insertBits, h3, hv]
  · rw [me, mtmsrdMsr, bit_forceBits_and_msrMask _ _ _ (.inr rfl)]
    simp [bit_setBit, bit_insertBits, h51, me]

theorem hv_me_mtmsrMsr (c : Params) (old x : Word) :
    hv (mtmsrMsr c old x) = hv old ∧ me (mtmsrMsr c old x) = me old := by
  have h3 : bit (mask 32 47 ||| mask 49 50 ||| mask 52 57 ||| mask 60 63) 3 = false := by decide
  have h51 : bit (mask 32 47 ||| mask 49 50 ||| mask 52 57 ||| mask 60 63) 51 = false := by decide
  constructor
  · rw [hv, mtmsrMsr, bit_forceBits_and_msrMask _ _ _ (.inl rfl), bit_insertBits _ _ _ (by decide), h3]
    rfl
  · rw [me, mtmsrMsr, bit_forceBits_and_msrMask _ _ _ (.inr rfl), bit_insertBits _ _ _ (by decide), h51]
    rfl

theorem hv_me_mtmsrL1 (old r : Word) : hv (mtmsrL1 old r) = hv old ∧ me (mtmsrL1 old r) = me old := by
  have h3 : bit (mask 48 48 ||| mask 62 62) 3 = false := by decide
  have h51 : bit (mask 48 48 ||| mask 62 62) 51 = false := by decide
  constructor
  · rw [hv, mtmsrL1, bit_insertBits _ _ _ (by decide), h3]
    rfl
  · rw [me, mtmsrL1, bit_insertBits _ _ _ (by decide), h51]
    rfl

/-! ### What an instruction does to the MSR -/

/-- The MSR `m` is the one that the instruction writes in state `s` (R321, R322, R343, R346). -/
def WritesMsr (i : Instr) (s : State) (m : Word) : Prop :=
  match i with
  | .rfid => m = rfidMsr s.cfg s.msr s.spr.srr1
  | .hrfid => s.hypervisor = true ∧ m = hrfidMsr s.cfg s.msr s.spr.hsrr1
  | .mtmsrd rs l => m = if l then mtmsrL1 s.msr (s.readGpr rs) else mtmsrdMsr s.cfg s.msr (s.readGpr rs)
  | .mtmsr rs l => m = if l then mtmsrL1 s.msr (s.readGpr rs) else mtmsrMsr s.cfg s.msr (s.readGpr rs)
  | _ => False

/-- The four instructions that write the MSR keep PR=1 with EE, IR and DR. -/
theorem WritesMsr.problemOk {i : Instr} {s : State} {m : Word} (h : WritesMsr i s m) (hp : s.problem = false) :
    problemOk m = true := by
  have hl1 (r : Word) : Machine.problemOk (mtmsrL1 s.msr r) = true := problemOk_of_not_pr ((pr_mtmsrL1 _ _).trans hp)
  cases i with
  | rfid => exact h ▸ problemOk_rfidMsr _ _ _
  | hrfid => exact h.2 ▸ problemOk_hrfidMsr _ _ _
  | mtmsrd rs l => cases l <;> cases h; exacts [problemOk_mtmsrdMsr _ _ _, hl1 _]
  | mtmsr rs l => cases l <;> cases h; exacts [problemOk_mtmsrMsr _ _ _, hl1 _]
  | _ => cases h

/-- Only `rfid` and `hrfid` write HV and ME. -/
theorem WritesMsr.keeps_hv_me {i : Instr} {s : State} {m : Word} (h : WritesMsr i s m) :
    (i = .rfid ∨ i = .hrfid) ∨ (hv m = hv s.msr ∧ me m = me s.msr) := by
  cases i with
  | rfid => exact .inl (.inl rfl)
  | hrfid => exact .inl (.inr rfl)
  | mtmsrd rs l => cases l <;> cases h; exacts [.inr (hv_me_mtmsrdMsr _ _ _), .inr (hv_me_mtmsrL1 _ _)]
  | mtmsr rs l => cases l <;> cases h; exacts [.inr (hv_me_mtmsrMsr _ _ _), .inr (hv_me_mtmsrL1 _ _)]
  | _ => cases h

/-- With HV=0 none of them alters HV or ME. -/
theorem WritesMsr.of_not_hv {i : Instr} {s : State} {m : Word} (h : WritesMsr i s m) (hs : hv s.msr = false) :
    hv m = false ∧ me m = me s.msr := by
  obtain (rfl | rfl) | ⟨hhv, hme⟩ := h.keeps_hv_me
  · cases h
    exact ⟨by rw [hv_rfidMsr, hs, Bool.false_and], me_rfidMsr_of_not_hv _ _ hs⟩
  · obtain ⟨hhyp, -⟩ := h
    simp [State.hypervisor, hs] at hhyp
  · exact ⟨hhv.trans hs, hme⟩

/-! ### What a completed instruction leaves alone outside hypervisor state -/

/-- An interrupt that an instruction takes: none of them uses HSRR0 and HSRR1 (R450, R487). -/
structure InstrTrap (s t : State) : Prop extends TrapFrame s t where
  hsrr : t.spr.hsrr0 = s.spr.hsrr0 ∧ t.spr.hsrr1 = s.spr.hsrr1

/-- The instruction completes: it leaves the MSR or writes it outside problem state, and outside hypervisor state the
hypervisor's registers stay. -/
structure Completes (i : Instr) (s t : State) : Prop where
  msr : t.msr = s.msr ∨ (s.problem = false ∧ WritesMsr i s t.msr)
  registers : s.hypervisor = false → s.sameHypervisorRegisters t

theorem State.sameHypervisorRegisters_of_eq {s t : State} (hspr : t.spr = s.spr) (htime : t.time = s.time)
    (hcfg : t.cfg = s.cfg) : s.sameHypervisorRegisters t := by
  unfold State.sameHypervisorRegisters
  rw [hspr, htime, hcfg]
  exact ⟨rfl, rfl, rfl, rfl, rfl, rfl, rfl, rfl, rfl, rfl, rfl, rfl, rfl, rfl, rfl, rfl⟩

theorem InstrTrap.registers {s t : State} (h : InstrTrap s t) : s.sameHypervisorRegisters t := by
  unfold State.sameHypervisorRegisters
  obtain ⟨hhsrr0, hhsrr1⟩ := h.hsrr
  rw [hhsrr0, hhsrr1, h.spr, h.time, h.cfg]
  exact ⟨rfl, rfl, rfl, rfl, rfl, rfl, rfl, rfl, rfl, rfl, rfl, rfl, rfl, rfl, rfl, rfl⟩

theorem Completes.of_eq {i : Instr} {s t : State} (hmsr : t.msr = s.msr) (hspr : t.spr = s.spr) (htime : t.time = s.time)
    (hcfg : t.cfg = s.cfg) : Completes i s t :=
  ⟨.inl hmsr, fun _ => State.sameHypervisorRegisters_of_eq hspr htime hcfg⟩

theorem Completes.of_writesMsr {i : Instr} {s t : State} (hp : s.problem = false) (hm : WritesMsr i s t.msr)
    (hspr : t.spr = s.spr) (htime : t.time = s.time) (hcfg : t.cfg = s.cfg) : Completes i s t :=
  ⟨.inr ⟨hp, hm⟩, fun _ => State.sameHypervisorRegisters_of_eq hspr htime hcfg⟩

theorem State.violate_hsrr (s : State) (v : Violation) (st : Bool) (a : Word) :
    (s.violate v st a).spr.hsrr0 = s.spr.hsrr0 ∧ (s.violate v st a).spr.hsrr1 = s.spr.hsrr1 := by
  unfold State.violate
  split <;> exact ⟨rfl, rfl⟩

theorem State.machineCheck_hsrr (s : State) (r : Bool) :
    (s.machineCheck r).spr.hsrr0 = s.spr.hsrr0 ∧ (s.machineCheck r).spr.hsrr1 = s.spr.hsrr1 := by
  unfold State.machineCheck
  split <;> exact ⟨rfl, rfl⟩

theorem State.probe_trap_hsrr {s t : State} {k : AccessKind} {p : Path} {x : Part} (h : s.probe k p x = .trap t) :
    t.spr.hsrr0 = s.spr.hsrr0 ∧ t.spr.hsrr1 = s.spr.hsrr1 := by
  simp only [State.probe] at h
  split at h
  · cases h
  · cases h; exact ⟨rfl, rfl⟩
  · cases h; exact ⟨rfl, rfl⟩
  · cases h; exact (s.drawn 3).machineCheck_hsrr _
  · cases h; exact (s.drawn 3).violate_hsrr _ _ _
  · split at h
    · cases h; exact (s.drawn 3).violate_hsrr _ _ _
    · split at h
      · cases h; exact (s.drawn 3).machineCheck_hsrr _
      · cases h
  · split at h
    · cases h
    · split at h
      · cases h; exact State.violate_hsrr _ _ _ _
      · split at h
        · cases h; exact State.machineCheck_hsrr _ _
        · cases h

theorem State.dataAccess_instrTrap {s t : State} {k : AccessKind} {ea : Word} {n : Nat} (h : s.dataAccess k ea n = .trap t) :
    InstrTrap s t := by
  refine { State.dataAccess_trap h with hsrr := ?_ }
  obtain h | ⟨x, u, -, hu⟩ := Access.bind_trap h
  · exact State.probe_trap_hsrr h
  · cases hu

/-! ### Every instruction takes an interrupt or completes -/

/-- What the instruction answers in state `s`: a next state after an interrupt, or one in which it has completed. -/
def Answers (i : Instr) (s : State) (r : Result) : Prop := ∀ t, r = .next t → InstrTrap s t ∨ Completes i s t

namespace Answers

section Tests

variable {i : Instr} {s : State} {f : Result}

theorem next {t : State} (h : Completes i s t) : Answers i s (.next t) := by
  intro u hu
  cases hu
  exact .inr h

theorem trap {t : State} (h : InstrTrap s t) : Answers i s (.next t) := by
  intro u hu
  cases hu
  exact .inl h

theorem refused (e : Refusal) : Answers i s (.refused e) := fun _ h => by cases h

theorem raise (k : ProgramKind) : Answers i s (s.raise k) := trap { s.program_frame k with hsrr := ⟨rfl, rfl⟩ }

theorem require {c : Bool} {e : Refusal} (hf : Answers i s f) : Answers i s (require c e f) :=
  fun t h => hf t (require_next.mp h).2

theorem optional {has : Bool} (hf : Answers i s f) : Answers i s (s.optional has f) := by
  unfold State.optional
  split
  · exact hf
  · exact raise _

theorem privileged (hf : s.problem = false → Answers i s f) : Answers i s (s.privileged f) := by
  unfold State.privileged
  split
  · exact raise _
  · exact hf (eq_false_of_ne_true ‹_›)

theorem hypervisorOnly (hf : s.hypervisor = true → Answers i s f) : Answers i s (s.hypervisorOnly f) := by
  unfold State.hypervisorOnly
  split
  · exact hf ‹_›
  · exact raise _

theorem alter {t : State} (h : Completes i s t) : Answers i s (s.alter t) := require (next h)

theorem slbIndex {rb clear : Word} {f : Nat → Result} (hf : ∀ k, Answers i s (f k)) : Answers i s (s.slbIndex rb clear f) :=
  require (require (hf _))

theorem bridge (hf : Answers i s f) : Answers i s (s.bridge f) := optional (privileged fun _ => require hf)

theorem tlbInstruction {has : Bool} (hf : Answers i s f) : Answers i s (s.tlbInstruction has f) :=
  optional (hypervisorOnly fun _ => hf)

/-- `lq` and `stq`: the tests, then the access, whose real address the effect goes on with. -/
theorem quad {formOk : Bool} {dsisr : Nat → Half} {ea : Word} {store : Bool} {k : AccessKind} {g : RealAddr → State → Result}
    (hg : ∀ a t, s.dataAccess k ea 16 = .ok a t → Answers i s (g a t)) :
    Answers i s (s.quadTests formOk dsisr ea (s.overflowTest store ea ((s.dataAccess k ea 16).andThen g))) := by
  refine optional (privileged fun _ => ?_)
  split
  · exact raise _
  · split
    · exact trap { ((s.drawn 1).alignment_frame _ _).of_drawn with hsrr := ⟨rfl, rfl⟩ }
    · unfold State.overflowTest
      split
      · exact trap { s.dataStorage_frame _ _ with hsrr := ⟨rfl, rfl⟩ }
      · intro t ht
        obtain ht | ⟨a, u, hu, ht⟩ := Access.andThen_next ht
        · exact .inl (State.dataAccess_instrTrap ht)
        · exact hg a u hu t ht

end Tests

end Answers

/-! ### Moves to the Special Purpose Registers -/

/-- The privilege that R66 gives a move to the register; PVR and PIR have no number for it. -/
def Spr.writePrivilege : Spr → Privilege
  | .xer | .lr | .ctr => .no
  | .sdr1 | .ear | .tbl | .tbu | .hsprg0 | .hsprg1 | .purr | .hdec | .rmor | .hrmor | .hsrr0 | .hsrr1 | .lpcr | .lpidr | .dabr
  | .dabrx => .hypv
  | _ => .yes

theorem perfSpr_writePrivilege {k : Nat} {r : Spr} (h : perfSpr k = some r) : r.writePrivilege = .yes := by
  unfold perfSpr at h
  split at h <;> cases h <;> rfl

theorem sprForWrite_privilege {c : Params} {n : BitVec 10} {r : Spr} {p : Privilege} (h : sprForWrite c n = some (r, p)) :
    r.writePrivilege = p := by
  unfold sprForWrite at h
  split at h
  · rename_i hcommon
    cases h
    unfold commonSpr at hcommon
    split at hcommon <;> cases hcommon <;> rfl
  · split at h
    case h_1 => cases h; rfl
    case h_2 => obtain ⟨-, hr, rfl⟩ := provided_eq_some.mp h; cases hr; rfl
    case h_3 => cases h; rfl
    case h_4 => cases h; rfl
    case h_5 =>
      split at h
      · obtain ⟨-, hr, rfl⟩ := provided_eq_some.mp h
        exact perfSpr_writePrivilege hr
      · cases h

/-- The registers that are not the hypervisor's to write are none of those of R33. -/
theorem State.writeSpr_sameHypervisorRegisters (s : State) {r : Spr} (v : Word) (h : r.writePrivilege ≠ .hypv) :
    s.sameHypervisorRegisters (s.writeSpr r v) := by
  cases r with
  | sdr1 | ear | tbl | tbu | hsprg0 | hsprg1 | purr | hdec | rmor | hrmor | hsrr0 | hsrr1 | lpcr | lpidr | dabr | dabrx =>
    exact absurd rfl h
  | _ => exact ⟨rfl, rfl, rfl, rfl, rfl, rfl, rfl, rfl, rfl, rfl, rfl, rfl, rfl, rfl, rfl, rfl⟩

/-- What a write sets off alters the Performance Monitor and the model's own fields only. -/
theorem State.afterSprWrite_eq (s : State) (r : Spr) (old : Word) (p : Sample) :
    ∃ pm run, s.afterSprWrite r old p = { s with pm := pm, run := run } := by
  obtain he | ⟨e, he⟩ := s.afterSprWrite_cases r old p
  · exact ⟨s.pm, s.run, he⟩
  · obtain ⟨pm, run, hpm, -⟩ := s.pmEvaluate_eq e p
    exact ⟨pm, run, he.trans hpm⟩

section Instructions

variable {i : Instr} {s : State}

theorem Answers.sprPrivilege {p : Privilege} {f : Result} (hf : (p = .hypv → s.hypervisor = true) → Answers i s f) :
    Answers i s (s.sprPrivilege p f) := by
  cases p with
  | no => exact hf (fun h => by cases h)
  | yes => exact .privileged fun _ => hf (fun h => by cases h)
  | hypv =>
    refine .privileged fun hp => ?_
    split
    · split
      · exact .raise _
      · exact .next (.of_eq rfl rfl rfl rfl)
    · rename_i hs
      refine hf fun _ => ?_
      simp_all [State.problem, State.supervisor, State.hypervisor]

theorem Answers.undefinedSpr (n : BitVec 10) : Answers i s (s.undefinedSpr n) := by
  unfold State.undefinedSpr
  split
  · exact .raise _
  · split <;> exact .raise _
  · split
    · exact .raise _
    · exact .refused _

theorem execMtspr_answers (n : BitVec 10) (rs : Reg) : Answers i s (execMtspr n rs s) := by
  unfold execMtspr
  split
  · rename_i r p hn
    refine .sprPrivilege fun hp t ht => .inr ?_
    obtain ⟨pm, run, he⟩ := (s.advance.writeSpr r (s.readGpr rs)).afterSprWrite_eq r s.time.tb ⟨s.cia, s.msr, none⟩
    rw [State.moveToSpr_next ht, he]
    refine ⟨.inl (State.writeSpr_msr _ _ _), fun hhyp => ?_⟩
    have hr : r.writePrivilege ≠ .hypv := fun h => by
      rw [hp ((sprForWrite_privilege hn).symm.trans h)] at hhyp
      cases hhyp
    exact s.advance.writeSpr_sameHypervisorRegisters _ hr
  · exact .undefinedSpr n

theorem execMfspr_answers (rt : Reg) (n : BitVec 10) : Answers i s (execMfspr rt n s) := by
  unfold execMfspr
  split
  · exact .sprPrivilege fun _ => .next (.of_eq rfl rfl rfl rfl)
  · exact .undefinedSpr n

/-! ### The other instructions -/

theorem execRfid_answers : Answers .rfid s (execRfid s) :=
  .privileged fun hp => .next (.of_writesMsr hp rfl rfl rfl rfl)

theorem execHrfid_answers : Answers .hrfid s (execHrfid s) := by
  refine .hypervisorOnly fun hhyp => .next (.of_writesMsr ?_ ⟨hhyp, rfl⟩ rfl rfl rfl)
  simp_all [State.hypervisor, State.problem]

theorem execMtmsrd_answers (rs : Reg) (l : Bool) : Answers (.mtmsrd rs l) s (execMtmsrd rs l s) := by
  refine .privileged fun hp => ?_
  cases l with
  | true => exact .next (.of_writesMsr hp rfl rfl rfl rfl)
  | false =>
    show Answers _ _ (s.moveMsrd _)
    unfold State.moveMsrd
    split
    · exact .require (.next (.of_writesMsr hp rfl rfl rfl rfl))
    · split
      · exact .refused _
      · exact .alter (.of_writesMsr hp rfl rfl rfl rfl)

theorem execMtmsr_answers (rs : Reg) (l : Bool) : Answers (.mtmsr rs l) s (execMtmsr rs l s) := by
  refine .optional (.privileged fun hp => ?_)
  cases l with
  | true => exact .next (.of_writesMsr hp rfl rfl rfl rfl)
  | false => exact .alter (.of_writesMsr hp rfl rfl rfl rfl)

theorem execSlbmfev_answers (rt rb : Reg) : Answers i s (execSlbmfev rt rb s) := by
  refine .privileged fun _ => .slbIndex fun k => ?_
  split <;> exact .next (.of_eq rfl rfl rfl rfl)

theorem execSlbmfee_answers (rt rb : Reg) : Answers i s (execSlbmfee rt rb s) := by
  refine .privileged fun _ => .slbIndex fun k => ?_
  split <;> exact .next (.of_eq rfl rfl rfl rfl)

theorem loadSegment_answers (sr : BitVec 4) (v : Word) : Answers i s (s.loadSegment sr v) :=
  .require (.alter (.of_eq rfl rfl rfl rfl))

theorem storeSegment_answers (rt : Reg) (sr : BitVec 4) : Answers i s (s.storeSegment rt sr) :=
  .next (.of_eq rfl rfl rfl rfl)

/-- A data access alters storage, the TLB and the model's own fields only. -/
theorem State.dataAccess_ok_eq {k : AccessKind} {ea : Word} {n : Nat} {a : RealAddr} {t : State}
    (h : s.dataAccess k ea n = .ok a t) : ∃ m tlb run, t = { s with mem := m, tlb := tlb, run := run } := by
  obtain ⟨x, -, rfl, -⟩ := State.dataAccess_ok h
  obtain ⟨m, tlb, he⟩ := (s.drawn 3).commit_eq k x
  exact ⟨m, tlb, _, he⟩

theorem execLq_answers (rt : Reg) (dq : BitVec 12) (ra : Reg) : Answers i s (execLq rt dq ra s) := by
  refine .quad fun a t ht => .next ?_
  obtain ⟨m, tlb, run, rfl⟩ := State.dataAccess_ok_eq ht
  exact .of_eq rfl rfl rfl rfl

theorem execStq_answers (rs : Reg) (ds : BitVec 14) (ra : Reg) : Answers i s (execStq rs ds ra s) := by
  refine .quad fun a t ht u hu => .inr ?_
  obtain ⟨m, tlb, run, rfl⟩ := State.dataAccess_ok_eq ht
  obtain ⟨-, rfl⟩ := State.alter_next.mp hu
  exact .of_eq rfl rfl rfl rfl

end Instructions

/-- Every instruction takes an interrupt or completes. -/
theorem exec_answers (i : Instr) (s : State) : Answers i s (exec i s) := by
  have hplain {t : State} (hmsr : t.msr = s.msr) (hspr : t.spr = s.spr) (htime : t.time = s.time) (hcfg : t.cfg = s.cfg) :
      Completes i s t := .of_eq hmsr hspr htime hcfg
  cases i with
  | sc lev => exact .trap { s.takeInterrupt_frame _ _ _ with hsrr := ⟨rfl, rfl⟩ }
  | rfid => exact execRfid_answers
  | hrfid => exact execHrfid_answers
  | mtspr n rs => exact execMtspr_answers n rs
  | mfspr rt n => exact execMfspr_answers rt n
  | mtmsrd rs l => exact execMtmsrd_answers rs l
  | mfmsr rt => exact .privileged fun _ => .next (hplain rfl rfl rfl rfl)
  | mtmsr rs l => exact execMtmsr_answers rs l
  | slbie rb => exact .privileged fun _ => .require (.require (.require (.alter (hplain rfl rfl rfl rfl))))
  | slbia => exact .privileged fun _ => .alter (hplain rfl rfl rfl rfl)
  | slbmte rs rb =>
    exact .privileged fun _ => .require <| .slbIndex fun _ => .require <| .require <| .require <| .require <|
      .alter (hplain rfl rfl rfl rfl)
  | slbmfev rt rb => exact execSlbmfev_answers rt rb
  | slbmfee rt rb => exact execSlbmfee_answers rt rb
  | tlbie rb l => exact .tlbInstruction (.require (.require (.alter (hplain rfl rfl rfl rfl))))
  | tlbiel rb l => exact .tlbInstruction (.require (.require (.alter (hplain rfl rfl rfl rfl))))
  | tlbia => exact .tlbInstruction (.alter (hplain rfl rfl rfl rfl))
  | tlbsync => exact .tlbInstruction (.next (hplain rfl rfl rfl rfl))
  | lq rt dq ra => exact execLq_answers rt dq ra
  | stq rs ds ra => exact execStq_answers rs ds ra
  | mtsr sr rs => exact .bridge (loadSegment_answers _ _)
  | mtsrin rs rb => exact .bridge (loadSegment_answers _ _)
  | mfsr rt sr => exact .bridge (storeSegment_answers _ _)
  | mfsrin rt rb => exact .bridge (storeSegment_answers _ _)
  | ptesync => exact .next (hplain rfl rfl rfl rfl)

/-- Settles O13: an interrupt of an instruction keeps these registers; an instruction that completes in state 0b00 writes none
of them, and leaves HV and ME. -/
theorem supervisorStateConfined : Obligations.SupervisorStateConfined := by
  intro i s t hs ht
  have hnot : s.hypervisor = false ∧ hv s.msr = false := by simp_all [State.supervisor, State.hypervisor]
  obtain ⟨hhyp, hhv⟩ := hnot
  have hkept (h : t.msr = s.msr) : me t.msr = me s.msr ∧ hv t.msr = false := by
    rw [h]
    exact ⟨rfl, hhv⟩
  obtain htrap | ⟨hmsr, hregisters⟩ := exec_answers i s t ht
  · refine ⟨htrap.registers, ?_⟩
    obtain ⟨k, hnia, hmsr, -⟩ | ⟨-, hmsr, -⟩ := htrap.entered
    · exact .inr ⟨k, hnia, hmsr⟩
    · exact .inl (hkept hmsr)
  · refine ⟨hregisters hhyp, .inl ?_⟩
    obtain hmsr | ⟨-, hwrites⟩ := hmsr
    · exact hkept hmsr
    · exact (hwrites.of_not_hv hhv).symm

/-! ### Words of Books I and II and of other books -/

/-- The same MSR and NIA, and the same of what the MSR after an interrupt depends on. -/
structure SameControl (s t : State) : Prop where
  msr : t.msr = s.msr
  nia : t.nia = s.nia
  lpcr : t.spr.lpcr = s.spr.lpcr
  cfg : t.cfg = s.cfg

theorem SameControl.trans {s t u : State} (h : SameControl s t) (h' : SameControl t u) : SameControl s u :=
  ⟨h'.msr.trans h.msr, h'.nia.trans h.nia, h'.lpcr.trans h.lpcr, h'.cfg.trans h.cfg⟩

/-- The word takes an interrupt, or leaves the MSR and what an interrupt's MSR depends on alone. -/
inductive LeavesMsr (s t : State) : Prop where
  | same (msr : t.msr = s.msr) (lpcr : t.spr.lpcr = s.spr.lpcr) (cfg : t.cfg = s.cfg)
  | entered (k : IntKind) (h : t.enteredFrom s k) (trapped : t.run.trapped = true)

theorem TrapFrame.leavesMsr {s t : State} (h : TrapFrame s t) : LeavesMsr s t := by
  obtain ⟨k, hnia, hmsr, -⟩ | ⟨-, hmsr, -⟩ := h.entered
  · exact .entered k ⟨hnia, hmsr⟩ h.trapped
  · exact .same hmsr (by rw [h.spr]) h.cfg

section Words

variable {s t : State} {f : Result}

theorem State.needsFp_next {float : Bool} (h : s.needsFp float f = .next t) : TrapFrame s t ∨ f = .next t := by
  unfold State.needsFp at h
  split at h
  · cases h
    exact .inl (s.takeInterrupt_frame _ _ _)
  · exact .inr h

theorem withBase_next {b : Option BaseEffect} {r : Refusal} {g : BaseEffect → Result} (h : withBase b r g = .next t) :
    ∃ e, g e = .next t := by
  cases b with
  | some e => exact ⟨e, h⟩
  | none => cases h

theorem State.externalControl_next {store : Bool} (h : s.externalControl store f = .next t) : TrapFrame s t ∨ f = .next t := by
  obtain ⟨-, rfl⟩ | ⟨-, h⟩ := State.optional_next h
  · exact .inl (s.program_frame _)
  · split at h
    · cases h
      exact .inl ((s.drawn 1).dataStorage_frame _ _).of_drawn
    · split at h
      · cases h
      · exact .inr h

theorem StorageKind.external_next {k : StorageKind} (h : k.external s f = .next t) : TrapFrame s t ∨ f = .next t := by
  unfold StorageKind.external at h
  split at h
  · exact State.externalControl_next h
  · exact State.externalControl_next h
  · exact .inr h

theorem StorageWord.overflowTest_next {x : StorageWord} {w : Half} (h : x.overflowTest w s f = .next t) :
    TrapFrame s t ∨ f = .next t := by
  unfold StorageWord.overflowTest at h
  split at h
  · exact .inr h
  · exact (State.overflowTest_next h).imp_right And.right

theorem StorageWord.accessOperand_trap {x : StorageWord} {w : Half} (h : x.accessOperand w s = .trap t) : TrapFrame s t := by
  unfold StorageWord.accessOperand at h
  split at h
  · obtain hok | ⟨u, htrap, hframe⟩ := s.emptyAccess_cases (x.kind.access s) (x.ea w s)
    · cases hok.symm.trans h
    · cases htrap.symm.trans h
      exact hframe
  · exact State.accessAll_trap (x.takeAlignment_frame w) h

theorem StorageWord.accessOperand_ok {x : StorageWord} {w : Half} {ts : List Target} (h : x.accessOperand w s = .ok ts t) :
    ∃ m tlb run, t = { s with mem := m, tlb := tlb, run := run } := by
  unfold StorageWord.accessOperand at h
  split at h
  · obtain hok | ⟨u, htrap, -⟩ := s.emptyAccess_cases (x.kind.access s) (x.ea w s)
    · cases hok.symm.trans h
      exact ⟨_, _, _, rfl⟩
    · cases htrap.symm.trans h
  · obtain ⟨-, -, m, tlb, run, he, -⟩ := State.accessAll_ok h
    exact ⟨m, tlb, run, he⟩

theorem execStorage_leavesMsr {x : StorageWord} {w : Half} {b : Option BaseEffect} (h : execStorage x w b s = .next t) :
    LeavesMsr s t := by
  unfold execStorage at h
  split at h
  · cases h
    exact (s.program_frame _).leavesMsr
  · obtain htrap | h := StorageKind.external_next h
    · exact htrap.leavesMsr
    obtain htrap | h := State.needsFp_next h
    · exact htrap.leavesMsr
    split at h
    · cases h
      exact (x.takeAlignment_frame w s).leavesMsr
    · obtain htrap | h := StorageWord.overflowTest_next h
      · exact htrap.leavesMsr
      obtain htrap | ⟨ts, u, hok, h⟩ := Access.andThen_next h
      · exact (StorageWord.accessOperand_trap htrap).leavesMsr
      obtain ⟨m, tlb, run, rfl⟩ := StorageWord.accessOperand_ok hok
      obtain ⟨e, h⟩ := withBase_next h
      dsimp only at h
      split at h
      · obtain ⟨-, rfl⟩ := State.alter_next.mp h
        obtain ⟨r, he⟩ := State.storeBytes_eq (State.withOperand (State.applied { s with mem := m, tlb := tlb, run := run } e)
          (x.ea w s)) ts e.stored
        rw [he]
        exact .same rfl rfl rfl
      · cases h
        exact .same rfl rfl rfl

theorem execFloat_leavesMsr {w : Half} {b : Option BaseEffect} (h : execFloat w b s = .next t) : LeavesMsr s t := by
  obtain htrap | h := State.needsFp_next h
  · exact htrap.leavesMsr
  obtain ⟨e, h⟩ := withBase_next h
  dsimp only at h
  split at h
  · cases h
    exact .entered .program ⟨rfl, rfl⟩ rfl
  · cases h
    exact .same rfl rfl rfl

theorem execOutside_leavesMsr {x : Outside} {w : Half} {b : Option BaseEffect} (h : execOutside x w b s = .next t) :
    LeavesMsr s t := by
  cases x with
  | storage y => exact execStorage_leavesMsr h
  | float => exact execFloat_leavesMsr h
  | trap =>
    obtain ⟨e, h⟩ := withBase_next h
    split at h
    · cases h
      exact (s.program_frame _).leavesMsr
    · cases h
      exact .same rfl rfl rfl
  | branch =>
    obtain ⟨e, h⟩ := withBase_next h
    cases h
    exact .same rfl rfl rfl
  | isync =>
    cases h
    exact .same rfl rfl rfl
  | plain listed =>
    obtain ⟨e, h⟩ := withBase_next h
    cases h
    exact .same rfl rfl rfl

theorem execBase_leavesMsr {x : Outside} {w : Half} {b : Option BaseWord} (h : execBase x w b s = .next t) : LeavesMsr s t := by
  unfold execBase at h
  split at h
  · cases h
    exact (s.program_frame _).leavesMsr
  · exact execOutside_leavesMsr h
  · exact execOutside_leavesMsr h

theorem execMftb_leavesMsr {rt : Reg} {tbr : BitVec 10} (h : execMftb rt tbr s = .next t) : LeavesMsr s t := by
  unfold execMftb at h
  split at h
  · cases h
    exact .same rfl rfl rfl
  · cases h
    exact .same rfl rfl rfl
  · split at h <;> cases h <;> exact (s.program_frame _).leavesMsr

theorem execForeign_leavesMsr {x : Foreign} (h : execForeign x s = .next t) : LeavesMsr s t := by
  cases x with
  | mftb rt tbr => exact execMftb_leavesMsr h
  | opcode0 =>
    cases h
    exact (s.program_frame _).leavesMsr
  | _ =>
    cases h
    exact .same rfl rfl rfl

end Words

/-! ### The end of a step -/

theorem State.elapse_sameControl (t old : State) (i : Input) (c : Option Executed) : SameControl t (t.elapse old i c) := by
  obtain ⟨time, pm, run, he, -⟩ := t.elapse_eq old i c
  rw [he]
  exact ⟨rfl, rfl, rfl, rfl⟩

theorem State.sideEffect_sameControl (s : State) (x : Executed) : SameControl s (s.sideEffect x) := by
  unfold State.sideEffect
  split <;> exact ⟨rfl, rfl, rfl, rfl⟩

theorem State.traceSamples_sameControl (t old : State) : SameControl t (t.traceSamples old) := by
  unfold State.traceSamples
  split <;> exact ⟨rfl, rfl, rfl, rfl⟩

theorem State.enteredFrom.of_sameControl {s t u : State} {k : IntKind} (h : u.enteredFrom t k) (hs : SameControl s t) :
    u.enteredFrom s k := by
  obtain ⟨hnia, hmsr⟩ := h
  exact ⟨hnia, by rw [hmsr, hs.cfg, hs.lpcr, hs.msr]⟩

/-- After an instruction that completes an interrupt may follow (R501 step 8). -/
theorem State.afterwards_cases (t old : State) (x : Executed) :
    t.afterwards old x = t ∨ ∃ k, (t.afterwards old x).enteredFrom t k := by
  unfold State.afterwards
  split
  · exact .inr ⟨.program, rfl, rfl⟩
  · split
    · exact .inr ⟨.trace, State.enteredFrom.of_sameControl ⟨rfl, rfl⟩ (t.traceSamples_sameControl old)⟩
    · exact .inl rfl

/-- The rest of a step leaves MSR and NIA as the instruction has left them, or takes an interrupt from there; not after an
interrupt of the instruction itself. -/
theorem State.finish_cases (t old : State) (i : Input) (x : Executed) :
    SameControl t (t.finish old i x) ∨ (t.run.trapped = false ∧ ∃ k, (t.finish old i x).enteredFrom t k) := by
  have hremember : SameControl t (t.remember old) := ⟨rfl, rfl, rfl, rfl⟩
  have hside := hremember.trans (State.sideEffect_sameControl _ x)
  have hcomplete : SameControl t (((t.remember old).sideEffect x).complete old) := hside.trans ⟨rfl, rfl, rfl, rfl⟩
  have hsync : SameControl t ((((t.remember old).sideEffect x).synchronize old x).complete old) := hside.trans ⟨rfl, rfl, rfl, rfl⟩
  unfold State.finish
  dsimp only
  split
  · split
    · exact .inl (hcomplete.trans (State.elapse_sameControl _ _ _ _))
    · exact .inl (hremember.trans (State.elapse_sameControl _ _ _ _))
  · have helapse := hsync.trans (State.elapse_sameControl _ old i (some x))
    obtain he | ⟨k, hk⟩ := State.afterwards_cases (State.elapse _ old i (some x)) old x
    · exact .inl (by rw [he]; exact helapse)
    · exact .inr ⟨eq_false_of_ne_true ‹_›, k, hk.of_sameControl helapse⟩

/-! ### What a step does to the MSR -/

/-- A step leaves the MSR, or ends at the vector of an interrupt with the MSR of Figure 35, or has executed an instruction of
Book III that completed, after which an interrupt may have followed. -/
inductive StepMsr (s t : State) : Prop where
  | same (msr : t.msr = s.msr)
  | entered (k : IntKind) (m : Word) (nia : t.nia = vector k) (msr : t.msr = newMsr s.cfg s.spr.lpcr k m)
      (old : k = .systemReset ∨ m = s.msr)
  | completed (w : Half) (u v : State) (i : Instr) (fetch : s.present.fetch = .ok w u) (word : decode w = .ok i)
      (start : u.msr = s.msr ∧ u.spr = s.spr ∧ u.cfg = s.cfg) (completes : Completes i u v)
      (rest : t.msr = v.msr ∨ ∃ k, t.enteredFrom v k)

theorem newMsr_systemReset_lpcr (c : Params) (l l' old : Word) :
    newMsr c l .systemReset old = newMsr c l' .systemReset old := by
  simp [newMsr, setsHv]

theorem State.systemReset_msr (s : State) (k : ResetKind) : (s.systemReset k).nia = vector .systemReset
    ∧ ∃ m, (s.systemReset k).msr = newMsr s.cfg s.spr.lpcr .systemReset m := by
  cases k with
  | powerOn =>
    obtain ⟨u, hu, he⟩ := s.systemReset_powerOn
    have hcfg : u.cfg = s.cfg := by rw [hu, State.undefinedRegisters_cfg]
    rw [he, ← hcfg]
    exact ⟨rfl, u.msr, newMsr_systemReset_lpcr _ _ _ _⟩
  | other recoverable => exact ⟨rfl, _, rfl⟩

/-- What leaves the MSR alone, or takes an interrupt, gives the step its MSR; an interrupt may follow only the former. -/
theorem LeavesMsr.stepMsr {s u v : State} (hu : u.msr = s.msr ∧ u.spr = s.spr ∧ u.cfg = s.cfg) (h : LeavesMsr u v) {t : State}
    (ht : SameControl v t ∨ (v.run.trapped = false ∧ ∃ k, t.enteredFrom v k)) : StepMsr s t := by
  obtain ⟨humsr, huspr, hucfg⟩ := hu
  cases h with
  | same hmsr hlpcr hcfg =>
    obtain hsame | ⟨-, k, hnia, hm⟩ := ht
    · exact .same (hsame.msr.trans (hmsr.trans humsr))
    · exact .entered k s.msr hnia (by rw [hm, hcfg, hucfg, hlpcr, huspr, hmsr, humsr]) (.inr rfl)
  | entered k h htrapped =>
    obtain ⟨hnia, hm⟩ := h
    obtain hsame | ⟨hnot, -⟩ := ht
    · exact .entered k s.msr (hsame.nia.trans hnia) (by rw [hsame.msr, hm, hucfg, huspr, humsr]) (.inr rfl)
    · rw [htrapped] at hnot
      cases hnot

theorem TrapFrame.stepMsr {s u v t : State} (hu : u.msr = s.msr ∧ u.spr = s.spr ∧ u.cfg = s.cfg) (h : TrapFrame u v)
    (ht : SameControl v t) : StepMsr s t :=
  h.leavesMsr.stepMsr hu (.inl ht)

theorem step_stepMsr {s t : State} (h : step s = .next t) : StepMsr s t := by
  have hpresent : s.present.msr = s.msr ∧ s.present.spr = s.spr ∧ s.present.cfg = s.cfg :=
    ⟨s.present_msr, s.present_spr, s.present_cfg⟩
  obtain ⟨k, -, rfl⟩ | ⟨-, -, hrest⟩ := State.boundary_next h
  · have hcontrol := (s.present.systemReset k).elapse_sameControl s.present s.input none
    obtain ⟨hnia, m, hmsr⟩ := s.present.systemReset_msr k
    exact .entered .systemReset m (hcontrol.nia.trans hnia) (by rw [hcontrol.msr, hmsr, s.present_cfg, s.present_spr]) (.inl rfl)
  obtain ⟨r, -, rfl⟩ | ⟨-, -, ⟨k, ks, -, rfl⟩ | ⟨-, hi⟩⟩ := hrest
  · refine TrapFrame.stepMsr ?_ (State.machineCheck_frame { s.present with pend := _ } r) (State.elapse_sameControl _ _ _ _)
    exact hpresent
  · exact ((s.present.drawn 1).takeInterrupt_frame _ _ _).of_drawn.stepMsr hpresent (State.elapse_sameControl _ _ _ _)
  · obtain ⟨-, hi⟩ := require_next.mp hi
    split at hi
    · rename_i w u hfetch
      have hu : u.msr = s.msr ∧ u.spr = s.spr ∧ u.cfg = s.cfg := by
        obtain ⟨m, tlb, run, rfl, -⟩ := State.fetch_ok hfetch
        exact hpresent
      unfold State.runWord at hi
      split at hi
      · rename_i i hword
        obtain ⟨v, hv, -, -, rfl⟩ := finishResult_next hi
        have hfinish := v.finish_cases s.present s.input (executedInstr i)
        obtain htrap | hcompletes := exec_answers i u v hv
        · exact htrap.leavesMsr.stepMsr hu hfinish
        · exact .completed w u v i hfetch hword hu hcompletes (hfinish.imp SameControl.msr And.right)
      · unfold State.runForeign at hi
        split at hi
        · obtain ⟨v, hv, -, -, rfl⟩ := finishResult_next hi
          exact (execForeign_leavesMsr hv).stepMsr hu (v.finish_cases _ _ _)
        · obtain ⟨v, hv, -, -, rfl⟩ := finishResult_next hi
          exact (execBase_leavesMsr hv).stepMsr hu (v.finish_cases _ _ _)
    · cases hi
      exact (State.fetch_trap ‹_›).stepMsr hpresent (State.elapse_sameControl _ _ _ _)
    · cases hi

/-! ### The statements -/

theorem of_problemOk {m : Word} (h : problemOk m = true) (hpr : pr m = true) : ee m = true ∧ ir m = true ∧ dr m = true := by
  simpa [problemOk, hpr, and_assoc] using h

/-- Settles O10: an interrupt leaves problem state and only Machine Check clears ME; of the instructions that complete, those
that write the MSR keep R38. -/
theorem writersKeepMsrInvariants : Obligations.WritersKeepMsrInvariants := by
  refine ⟨fun i s t ht hs hpr => ?_, fun i s t ht hme => ?_, fun s t ht hs => ?_⟩
  · apply of_problemOk _ hpr
    have hsame (h : t.msr = s.msr) : problemOk t.msr = true := h ▸ problemOk_of_not_pr hs
    obtain htrap | ⟨hmsr, -⟩ := exec_answers i s t ht
    · obtain ⟨k, -, hmsr, -⟩ | ⟨-, hmsr, -⟩ := htrap.entered
      · exact hmsr ▸ problemOk_newMsr _ _ _ _
      · exact hsame hmsr
    · obtain hmsr | ⟨hp, hwrites⟩ := hmsr
      · exact hsame hmsr
      · exact hwrites.problemOk hp
  · have hsame (h : t.msr = s.msr) : False := hme (by rw [h])
    obtain htrap | ⟨hmsr, -⟩ := exec_answers i s t ht
    · obtain ⟨k, hnia, hmsr, -⟩ | ⟨-, hmsr, -⟩ := htrap.entered
      · by_cases hk : k = .machineCheck
        · exact .inr (.inr (hk ▸ ⟨hnia, hmsr⟩))
        · refine absurd ?_ hme
          rw [hmsr, me_newMsr, bne_iff_ne.mpr hk, Bool.true_and]
      · exact (hsame hmsr).elim
    · obtain hmsr | ⟨-, hwrites⟩ := hmsr
      · exact (hsame hmsr).elim
      · obtain (hi | hi) | ⟨-, hkept⟩ := hwrites.keeps_hv_me
        · exact .inl hi
        · exact .inr (.inl hi)
        · exact absurd hkept hme
  · cases step_stepMsr ht with
    | same hmsr => exact hmsr ▸ hs
    | entered k m hnia hmsr hold => exact hmsr ▸ problemOk_newMsr _ _ _ _
    | completed w u v i hfetch hword hu hcompletes hrest =>
      obtain hmsr | ⟨k, -, hmsr⟩ := hrest
      · rw [hmsr]
        obtain hmsr | ⟨hp, hwrites⟩ := hcompletes.msr
        · rw [hmsr, hu.1]
          exact hs
        · exact hwrites.problemOk hp
      · exact hmsr ▸ problemOk_newMsr _ _ _ _

/-! #### Hypervisor state is entered by an interrupt, and left by `rfid` and `hrfid` (R37) -/

theorem setsHv_of_hv_newMsr {c : Params} {l m : Word} {k : IntKind} (h : hv (newMsr c l k m) = true) (hm : hv m = false) :
    setsHv l k = true := by
  simpa [hv_newMsr, hm] using h

theorem exec_raises_hv {i : Instr} {s t : State} (ht : exec i s = .next t) (hs : hv s.msr = false) (hraised : hv t.msr = true) :
    ∃ k, t.enteredFrom s k ∧ setsHv s.spr.lpcr k = true := by
  have hsame (h : t.msr = s.msr) : False := by simp [h, hs] at hraised
  obtain htrap | ⟨hmsr, -⟩ := exec_answers i s t ht
  · obtain ⟨k, hnia, hmsr, -⟩ | ⟨-, hmsr, -⟩ := htrap.entered
    · exact ⟨k, ⟨hnia, hmsr⟩, setsHv_of_hv_newMsr (hmsr ▸ hraised) hs⟩
    · exact (hsame hmsr).elim
  · obtain hmsr | ⟨-, hwrites⟩ := hmsr
    · exact (hsame hmsr).elim
    · simp [(hwrites.of_not_hv hs).1] at hraised

theorem exec_lowers_hv {i : Instr} {s t : State} (ht : exec i s = .next t) (hs : hv s.msr = true) (hlowered : hv t.msr = false) :
    i = .rfid ∨ i = .hrfid := by
  have hsame (h : t.msr = s.msr) : False := by simp [h, hs] at hlowered
  obtain htrap | ⟨hmsr, -⟩ := exec_answers i s t ht
  · obtain ⟨k, -, hmsr, -⟩ | ⟨-, hmsr, -⟩ := htrap.entered
    · simp [hmsr, hv_newMsr, hs] at hlowered
    · exact (hsame hmsr).elim
  · obtain hmsr | ⟨-, hwrites⟩ := hmsr
    · exact (hsame hmsr).elim
    · obtain hi | ⟨hkept, -⟩ := hwrites.keeps_hv_me
      · exact hi
      · simp [hkept, hs] at hlowered

theorem Completes.of_not_hv {i : Instr} {s t : State} (h : Completes i s t) (hs : hv s.msr = false) :
    hv t.msr = false ∧ t.spr.lpcr = s.spr.lpcr ∧ t.cfg = s.cfg := by
  have hhv : hv t.msr = false := by
    obtain hmsr | ⟨-, hwrites⟩ := h.msr
    · rw [hmsr, hs]
    · exact (hwrites.of_not_hv hs).1
  obtain ⟨hlpcr, -, -, -, -, -, -, -, -, -, -, -, -, -, -, hcfg⟩ := h.registers (by simp [State.hypervisor, hs])
  exact ⟨hhv, hlpcr, hcfg⟩

theorem step_raises_hv {s t : State} (ht : step s = .next t) (hs : hv s.msr = false) (hraised : hv t.msr = true) :
    ∃ k m, t.nia = vector k ∧ t.msr = newMsr s.cfg s.spr.lpcr k m ∧ setsHv s.spr.lpcr k = true := by
  cases step_stepMsr ht with
  | same hmsr => simp [hmsr, hs] at hraised
  | entered k m hnia hmsr hold =>
    refine ⟨k, m, hnia, hmsr, ?_⟩
    obtain rfl | rfl := hold
    · rfl
    · exact setsHv_of_hv_newMsr (hmsr ▸ hraised) hs
  | completed w u v i hfetch hword hu hcompletes hrest =>
    obtain ⟨humsr, huspr, hucfg⟩ := hu
    obtain ⟨hvs, hlpcr, hcfg⟩ := hcompletes.of_not_hv (humsr ▸ hs)
    obtain hmsr | ⟨k, hnia, hmsr⟩ := hrest
    · simp [hmsr, hvs] at hraised
    · rw [hcfg, hlpcr, huspr, hucfg] at hmsr
      exact ⟨k, v.msr, hnia, hmsr, setsHv_of_hv_newMsr (hmsr ▸ hraised) hvs⟩

theorem step_lowers_hv {s t : State} (ht : step s = .next t) (hs : hv s.msr = true) (hlowered : hv t.msr = false) :
    ∃ w u, s.present.fetch = .ok w u ∧ (decode w = .ok .rfid ∨ decode w = .ok .hrfid) := by
  cases step_stepMsr ht with
  | same hmsr => simp [hmsr, hs] at hlowered
  | entered k m hnia hmsr hold =>
    obtain rfl | rfl := hold
    · simp [hmsr, hv_newMsr, setsHv] at hlowered
    · simp [hmsr, hv_newMsr, hs] at hlowered
  | completed w u v i hfetch hword hu hcompletes hrest =>
    obtain ⟨humsr, -, -⟩ := hu
    have hus : hv u.msr = true := humsr ▸ hs
    have hvs : hv v.msr = false := by
      obtain hmsr | ⟨k, -, hmsr⟩ := hrest
      · rw [← hmsr, hlowered]
      · rw [hmsr, hv_newMsr, Bool.or_eq_false_iff] at hlowered
        exact hlowered.2
    refine ⟨w, u, hfetch, ?_⟩
    rw [hword]
    obtain hmsr | ⟨-, hwrites⟩ := hcompletes.msr
    · simp [hmsr, hus] at hvs
    · obtain (rfl | rfl) | ⟨hkept, -⟩ := hwrites.keeps_hv_me
      · exact .inl rfl
      · exact .inr rfl
      · simp [hkept, hus] at hvs

/-- Settles O11: HV is raised by the MSR of an interrupt only, and lowered by what `rfid` and `hrfid` write only. -/
theorem hypervisorStateEnteredAndLeft : Obligations.HypervisorStateEnteredAndLeft := by
  have hstate (s : State) : (s.problem = true ↔ pr s.msr = true) ∧ (s.hypervisor = true ↔ hv s.msr = true ∧ pr s.msr = false)
      ∧ (s.supervisor = true ↔ hv s.msr = false ∧ pr s.msr = false) := by
    simp [State.problem, State.hypervisor, State.supervisor]
  exact ⟨hstate, fun _ _ _ => exec_raises_hv, fun _ _ _ => exec_lowers_hv, fun _ _ => step_raises_hv, fun _ _ => step_lowers_hv⟩

end Sys2Proof.Machine
end

section
/-! PROOFS. Invalidation of SLB entries (O43). -/

namespace Sys2Proof.Machine

/-! ### Entries after an invalidation (R370, R371) -/

theorem SlbEntry.invalid_v (n : Nat) : (SlbEntry.invalid n).v = false := rfl

/-- Every entry of a list mapped with its index; beyond the end both lists read as the zero entry. -/
theorem getD_mapIdx (l : List SlbEntry) (f : Nat → SlbEntry → SlbEntry) (i : Nat) (h : f i SlbEntry.zero = SlbEntry.zero) :
    (l.mapIdx f).getD i SlbEntry.zero = f i (l.getD i SlbEntry.zero) := by
  rw [List.getD_eq_getElem?_getD, List.getD_eq_getElem?_getD, List.getElem?_mapIdx]
  cases l[i]? with
  | none => exact h.symm
  | some e => rfl

theorem State.slbEntry_invalidateEsid (s : State) (esid : BitVec 36) (i : Nat) :
    (s.invalidateEsid esid).slbEntry i =
      if (s.slbEntry i).v && (s.slbEntry i).esid == esid then SlbEntry.invalid (s.run.draws + i) else s.slbEntry i :=
  getD_mapIdx s.slb (fun i e => if e.v && e.esid == esid then SlbEntry.invalid (s.run.draws + i) else e) i rfl

theorem State.slbEntry_zero_invalidateSlb (s : State) : s.invalidateSlb.slbEntry 0 = s.slbEntry 0 :=
  getD_mapIdx s.slb (fun i e => if i = 0 then e else SlbEntry.invalid (s.run.draws + i)) 0 rfl

/-- Beyond the end of the SLB an entry reads as invalid. -/
theorem State.slbEntry_invalidateSlb_v (s : State) {i : Nat} (hi : i ≠ 0) : (s.invalidateSlb.slbEntry i).v = false := by
  have hentry : s.invalidateSlb.slbEntry i = ((s.slb[i]?).map fun _ => SlbEntry.invalid (s.run.draws + i)).getD SlbEntry.zero := by
    show (s.slb.mapIdx _).getD i _ = _
    simp [List.getD_eq_getElem?_getD, hi]
  rw [hentry]
  cases s.slb[i]? <;> rfl

/-- Where every test passes, `slbie` is the invalidation of the ESID in RB. -/
theorem exec_slbie_next {rb : Reg} {s : State} (hp : s.problem = false) (hclear : s.readGpr rb &&& mask 37 63 = 0)
    (hmode : esidInMode s.msr (s.readGpr rb) = true)
    (hclass : ∀ c, s.classOf (field (s.readGpr rb) 0 36) = some c → c = bit (s.readGpr rb) 36)
    (hbranch : s.noImplicitBranch (s.advance.invalidateEsid (field (s.readGpr rb) 0 36))) :
    exec (.slbie rb) s = .next (s.advance.invalidateEsid (field (s.readGpr rb) 0 36)) := by
  have hsame : ((s.classOf (field (s.readGpr rb) 0 36)).all fun c => c == bit (s.readGpr rb) 36) = true :=
    Option.all_eq_true _ _ |>.mpr fun c hc => beq_iff_eq.mpr (hclass c hc)
  show execSlbie rb s = _
  rw [execSlbie, State.privileged_of_not_problem _ hp, require_of_true (beq_iff_eq.mpr hclear), require_of_true hmode,
    require_of_true hsame]
  exact State.alter_next.mpr ⟨implicitBranch_eq_false.mpr hbranch, rfl⟩

theorem exec_slbia_next {s : State} (hp : s.problem = false) (hbranch : s.noImplicitBranch s.advance.invalidateSlb) :
    exec .slbia s = .next s.advance.invalidateSlb :=
  (State.privileged_of_not_problem _ hp).trans (State.alter_next.mpr ⟨implicitBranch_eq_false.mpr hbranch, rfl⟩)

/-- Settles O43: the tests pass by the hypotheses, and each entry is read off after the invalidation. -/
theorem slbInvalidation : Obligations.SlbInvalidation := by
  refine ⟨?_, fun s hp hbranch => ?_⟩
  · intro rb s hp b esid hclear hmode hclass hbranch
    have hmode' : esidInMode s.msr b = true := by simpa [esidInMode, high] using hmode
    have hentry (i : Nat) : (s.advance.invalidateEsid esid).slbEntry i =
        if (s.slbEntry i).v && (s.slbEntry i).esid == esid then SlbEntry.invalid (s.run.draws + i) else s.slbEntry i :=
      s.advance.slbEntry_invalidateEsid esid i
    refine ⟨_, exec_slbie_next hp hclear hmode' hclass hbranch, List.length_mapIdx, fun i hv he => ?_, fun i hne => ?_,
      fun x => ?_, rfl⟩
    · exact (congrArg SlbEntry.v (hentry i)).trans (by simp [hv, he, SlbEntry.invalid_v])
    · exact (hentry i).trans (if_neg fun h => hne ((Bool.and_eq_true_iff.mp h).imp_right beq_iff_eq.mp))
    · show x ∈ s.slbGone.filter _ ↔ _
      rw [List.mem_filter, bne_iff_ne]
      rfl
  · exact ⟨_, exec_slbia_next hp hbranch, List.length_mapIdx, s.advance.slbEntry_zero_invalidateSlb,
      fun i hi => s.advance.slbEntry_invalidateSlb_v hi, rfl⟩

end Sys2Proof.Machine
end

section
/-! PROOFS. Interrupts of `lq` and `stq` (O29), and of words of Books I and II (O28). -/

namespace Sys2Proof.Machine

/-! ### The state after an interrupt that an operand causes -/

/-- The instruction at CIA takes an interrupt without information bits: what R450 saves, and what stays. -/
structure StoppedAt (s t : State) (k : IntKind) : Prop where
  entered : t.enteredFrom s k
  srr0 : t.spr.srr0 = s.cia
  srr1 : t.spr.srr1 = s.msr &&& ~~~0x783F0000
  gpr : t.gpr = s.gpr
  bookI : t.bookI = s.bookI
  mem : t.mem = s.mem

theorem srr1Of_zero (m : Word) : srr1Of m 0 = m &&& ~~~0x783F0000 := by
  simp [srr1Of, insertBits, infoMask]

theorem State.takeInterrupt_stopped (s : State) {k : IntKind} (hk : k.usesHsrr = false) :
    StoppedAt s (s.takeInterrupt k s.cia 0) k := by
  have hspr : (s.takeInterrupt k s.cia 0).spr = { s.spr with srr0 := ea32 s.msr s.cia, srr1 := srr1Of s.msr 0 } := by
    simp [State.takeInterrupt, hk]
  exact ⟨⟨rfl, rfl⟩, by rw [hspr, State.ea32_cia], by rw [hspr, srr1Of_zero], rfl, rfl, rfl⟩

theorem State.dataStorage_stopped (s : State) (d : Half) (a : Word) : StoppedAt s (s.dataStorage d a) .dataStorage :=
  ⟨⟨rfl, rfl⟩, s.ea32_cia, srr1Of_zero _, rfl, rfl, rfl⟩

theorem State.alignment_stopped (s : State) (d : Half) (a : Word) : StoppedAt s (s.alignment d a) .alignment :=
  ⟨⟨rfl, rfl⟩, s.ea32_cia, srr1Of_zero _, rfl, rfl, rfl⟩

/-- Drawing undefined values and keeping an entry in the TLB before the interrupt change none of this. -/
theorem StoppedAt.of_same {s u t : State} {k : IntKind} (h : StoppedAt u t k) (hu : ∃ tlb run, u = { s with tlb := tlb, run := run }) :
    StoppedAt s t k := by
  obtain ⟨tlb, run, rfl⟩ := hu
  exact ⟨h.entered, h.srr0, h.srr1, h.gpr, h.bookI, h.mem⟩

/-! ### Bits of the DSISR (R475) -/

theorem hbit_or (x y : Half) (i : Nat) : hbit (x ||| y) i = (hbit x i || hbit y i) := by simp [hbit]

theorem hbit_hbitIf {i j : Nat} (b : Bool) (hi : i < 32) (hj : j < 32) : hbit (hbitIf i b) j = (b && decide (i = j)) := by
  cases b
  · simp [hbitIf, hbit]
  · rw [hbitIf, if_pos rfl, hmask, hbit, ← BitVec.twoPow_eq, BitVec.getLsbD_twoPow]
    by_cases h : i = j
    · simp [h, show 31 - j < 32 by omega]
    · simp [h, show 31 - i ≠ 31 - j by omega]

/-- Bit 15, which is undefined, is masked off (R465). -/
theorem or_hbitIf_15_and {d : Half} (b : Bool) (hd : d &&& ~~~0x10000 = d) : (d ||| hbitIf 15 b) &&& ~~~0x10000 = d := by
  have hfree : hbitIf 15 b &&& ~~~0x10000 = 0 := by cases b <;> decide
  rw [BitVec.and_comm, BitVec.and_or_distrib_left, BitVec.and_comm, hd, BitVec.and_comm, hfree]
  exact BitVec.or_zero

/-- A field of the instruction word above the five bits that R475 leaves undefined. -/
theorem shiftLeft_and_not {k : Nat} (hk : 5 ≤ k) (x : Half) : (x <<< k) &&& ~~~0xFFFFFFE0 = 0 := by
  rw [and_not_eq_zero_iff]
  intro i hi
  have hrange : k ≤ i ∧ i < 32 := by
    simp only [BitVec.getLsbD_shiftLeft, Bool.and_eq_true, decide_eq_true_eq, Bool.not_eq_true', decide_eq_false_iff_not] at hi
    omega
  obtain ⟨hlo, hhi⟩ := hrange
  have hfive : 5 ≤ i := hk.trans hlo
  clear hi hlo
  interval_cases i <;> rfl

theorem hbitIf_17_and_not (b : Bool) : hbitIf 17 b &&& ~~~0xFFFFFFE0 = 0 := by cases b <;> decide

/-- Bits 27:31 of the DSISR masked off. -/
theorem or_setWidth_and {d : Half} (ra : BitVec 5) (hd : d &&& ~~~0xFFFFFFE0 = 0) : (d ||| ra.setWidth 32) &&& 0xFFFFFFE0 = d := by
  rw [and_not_eq_zero_iff] at hd
  apply BitVec.eq_of_getLsbD_eq
  intro i hi
  have hmask : (0xFFFFFFE0 : Half).getLsbD i = decide (5 ≤ i) := by interval_cases i <;> rfl
  have hdi := hd i
  rw [hmask] at hdi
  rw [BitVec.getLsbD_and, BitVec.getLsbD_or, hmask, BitVec.getLsbD_setWidth]
  by_cases h : 5 ≤ i
  · simp [h]
  · have hclear : d.getLsbD i = false := by simpa [h] using hdi
    simp [h, hclear]

theorem alignDsisrX_and (w : Half) (ra : BitVec 5) : alignDsisrX w ra &&& (0xFFFFFFE0 : Half) =
    ((w.extractLsb' 1 2).setWidth 32 <<< 15) ||| ((w.extractLsb' 6 1).setWidth 32 <<< 14)
      ||| ((w.extractLsb' 7 4).setWidth 32 <<< 10) ||| ((w.extractLsb' 21 5).setWidth 32 <<< 5) := by
  have hbit17 : hbitIf 17 (ibit w 25) = (w.extractLsb' 6 1).setWidth 32 <<< 14 := by
    have hone : w.extractLsb' 6 1 = BitVec.ofBool (w.getLsbD 6) := by
      apply BitVec.eq_of_getLsbD_eq
      intro i hi
      simp [show i = 0 by omega]
    rw [hone, ibit]
    cases w.getLsbD 6 <;> decide
  rw [← hbit17]
  exact or_setWidth_and ra (or_and_not (or_and_not (or_and_not (shiftLeft_and_not (by decide) _) (hbitIf_17_and_not _))
    (shiftLeft_and_not (by decide) _)) (shiftLeft_and_not (by decide) _))

theorem alignDsisrD_and (w : Half) (ra : BitVec 5) : alignDsisrD w ra &&& (0xFFFFFFE0 : Half) =
    hbitIf 17 (ibit w 5) ||| (ifield w 1 4).setWidth 32 <<< 10 ||| (ifield w 6 5).setWidth 32 <<< 5 :=
  or_setWidth_and ra (or_and_not (or_and_not (hbitIf_17_and_not _) (shiftLeft_and_not (by decide) _))
    (shiftLeft_and_not (by decide) _))

theorem lqDsisr_and (rt : Reg) (dq : BitVec 12) (ra : Reg) (n : Nat) :
    lqDsisr rt dq ra n &&& (0xFFFFFFE0 : Half) = 0x3000 ||| (rt.setWidth 32 <<< 5) := by
  have hrt : ifield (encode (.lq rt dq ra)) 6 5 = rt := by
    apply BitVec.eq_of_getLsbD_eq
    intro i hi
    simp only [ifield, encode, BitVec.getLsbD_extractLsb', BitVec.getLsbD_append]
    interval_cases i <;> simp
  have hmajor : ifield (encode (.lq rt dq ra)) 1 4 = 12 := by
    apply BitVec.eq_of_getLsbD_eq
    intro i hi
    simp only [ifield, encode, BitVec.getLsbD_extractLsb', BitVec.getLsbD_append]
    interval_cases i <;> simp
  have hlow : ibit (encode (.lq rt dq ra)) 5 = false := by
    simp only [ibit, encode, BitVec.getLsbD_append]
    simp
  rw [lqDsisr, alignDsisrD_and, hrt, hmajor, hlow]
  rfl

theorem alignDsisrDs_and (w : Half) (ra : BitVec 5) : alignDsisrDs w ra &&& (0xFFFFFFE0 : Half) =
    (ifield w 30 2).setWidth 32 <<< 18 ||| (hbitIf 17 (ibit w 5) ||| (ifield w 1 4).setWidth 32 <<< 10
      ||| (ifield w 6 5).setWidth 32 <<< 5) := by
  have hextended : (ifield w 30 2).setWidth 32 <<< 18 &&& (0xFFFFFFE0 : Half) = (ifield w 30 2).setWidth 32 <<< 18 := by
    simpa using or_setWidth_and (0#5) (shiftLeft_and_not (k := 18) (by decide) ((ifield w 30 2).setWidth 32))
  rw [alignDsisrDs, BitVec.and_comm, BitVec.and_or_distrib_left, BitVec.and_comm, hextended, BitVec.and_comm, alignDsisrD_and]

theorem stqDsisr_and (rs : Reg) (ds : BitVec 14) (ra : Reg) (n : Nat) :
    stqDsisr rs ds ra n &&& (0xFFFFFFE0 : Half) = 0x83C00 ||| (rs.setWidth 32 <<< 5) := by
  have hrs : ifield (encode (.stq rs ds ra)) 6 5 = rs := by
    apply BitVec.eq_of_getLsbD_eq
    intro i hi
    simp only [ifield, encode, BitVec.getLsbD_extractLsb', BitVec.getLsbD_append]
    interval_cases i <;> simp
  have hmajor : ifield (encode (.stq rs ds ra)) 1 4 = 15 := by
    apply BitVec.eq_of_getLsbD_eq
    intro i hi
    simp only [ifield, encode, BitVec.getLsbD_extractLsb', BitVec.getLsbD_append]
    interval_cases i <;> simp
  have hextended : ifield (encode (.stq rs ds ra)) 30 2 = 2 := by
    apply BitVec.eq_of_getLsbD_eq
    intro i hi
    simp only [ifield, encode, BitVec.getLsbD_extractLsb', BitVec.getLsbD_append]
    interval_cases i <;> simp
  have hlow : ibit (encode (.stq rs ds ra)) 5 = false := by
    simp only [ibit, encode, BitVec.getLsbD_append]
    simp
  rw [stqDsisr, alignDsisrDs_and, hrs, hmajor, hlow, hextended, ← BitVec.or_assoc]
  rfl

/-! ### The tests of `lq` and `stq` -/

theorem aligned16_iff (ea : Word) : aligned16 ea = true ↔ ea &&& 15 = 0 := by
  have hfield : (field ea 60 4).toNat = ea.toNat % 16 := by simp [field, BitVec.extractLsb'_toNat]
  have hand : (ea &&& 15).toNat = ea.toNat % 16 := by
    rw [BitVec.toNat_and]
    exact Nat.and_two_pow_sub_one_eq_mod ea.toNat 4
  rw [aligned16, beq_iff_eq, ← BitVec.toNat_inj, ← BitVec.toNat_inj, hfield, hand]
  rfl

section Quad

variable {s : State} {formOk : Bool} {dsisr : Nat → Half} {ea : Word} {f : Result}
  (hq : s.cfg.hasLqstq = true) (hp : s.problem = false)
include hq hp

theorem State.quadTests_eq : s.quadTests formOk dsisr ea f =
    if !formOk then s.raise .illegal
    else if !aligned16 ea then .next ((s.drawn 1).alignment (dsisr s.run.draws) ea) else f := by
  rw [State.quadTests, State.optional, if_pos hq, State.privileged_of_not_problem _ hp]

theorem State.quadTests_of_invalid (hform : formOk = false) :
    s.quadTests formOk dsisr ea f = .next (s.programInterrupt illegalCause) := by
  rw [State.quadTests_eq hq hp, hform]
  exact s.raise_eq .illegal

theorem State.quadTests_of_unaligned (hform : formOk = true) (hea : ea &&& 15 ≠ 0) :
    s.quadTests formOk dsisr ea f = .next ((s.drawn 1).alignment (dsisr s.run.draws) ea) := by
  have halign : aligned16 ea = false := eq_false_of_ne_true fun h => hea ((aligned16_iff ea).mp h)
  rw [State.quadTests_eq hq hp, hform, halign]
  rfl

theorem State.quadTests_of_aligned (hform : formOk = true) (hea : ea &&& 15 = 0) : s.quadTests formOk dsisr ea f = f := by
  rw [State.quadTests_eq hq hp, hform, (aligned16_iff ea).mpr hea]
  rfl

end Quad

/-- The interrupt of an operand that is no multiple of 16. -/
theorem State.alignment_quad (s : State) (d : Half) (ea : Word) :
    ((s.drawn 1).alignment d ea).enteredFrom s .alignment ∧ ((s.drawn 1).alignment d ea).spr.srr0 = s.cia
      ∧ ((s.drawn 1).alignment d ea).spr.dar = ea ∧ ((s.drawn 1).alignment d ea).spr.dsisr = d :=
  ⟨⟨rfl, rfl⟩, s.ea32_cia, rfl, rfl⟩

/-- The Data Storage interrupt of an Effective Address Overflow: its DSISR names no cause but a Store. -/
theorem State.overflowTest_of_overflow {s : State} (hdr : dr s.msr = true) (ho : s.run.overflow = true) (store : Bool) (ea : Word)
    (f : Result) : s.overflowTest store ea f = .next (s.dataStorage (hbitIf 6 store) ea)
      ∧ (s.dataStorage (hbitIf 6 store) ea).spr.dsisr &&& ~~~0x10000 = hbitIf 6 store := by
  refine ⟨by simp [State.overflowTest, hdr, ho], or_hbitIf_15_and _ ?_⟩
  cases store <;> decide

theorem exec_lq (rt : Reg) (dq : BitVec 12) (ra : Reg) (s : State) : exec (.lq rt dq ra) s =
    s.quadTests (lqFormOk rt ra) (lqDsisr rt dq ra) (lqEa s dq ra) (s.overflowTest false (lqEa s dq ra)
      ((s.dataAccess (.quad false) (lqEa s dq ra) 16).andThen fun a t => .next (t.loadQuad rt a (lqEa s dq ra)))) := rfl

theorem exec_stq (rs : Reg) (ds : BitVec 14) (ra : Reg) (s : State) : exec (.stq rs ds ra) s =
    s.quadTests (stqFormOk rs) (stqDsisr rs ds ra) (stqEa s ds ra) (s.overflowTest true (stqEa s ds ra)
      ((s.dataAccess (.quad true) (stqEa s ds ra) 16).andThen fun a t => s.alter (t.storeQuad rs a (stqEa s ds ra)))) := rfl

theorem lqFormOk_iff {rt ra : Reg} : lqFormOk rt ra = true ↔ rt.getLsbD 0 = false ∧ rt ≠ ra := by
  simp [lqFormOk, Reg.isOdd]

theorem stqFormOk_iff {rs : Reg} : stqFormOk rs = true ↔ rs.getLsbD 0 = false := by
  simp [stqFormOk, Reg.isOdd]

/-- Settles O29: the tests of the two instructions in their order, each with the interrupt that it takes. -/
theorem quadFormAndAlignment : Obligations.QuadFormAndAlignment := by
  intro r ra dq ds s hq hp
  refine ⟨fun hinvalid => ?_, fun hodd => ?_, fun heven hne hea => ?_, fun heven hea => ?_, fun heven hdr ho => ?_⟩
  · rw [exec_lq]
    refine State.quadTests_of_invalid hq hp (eq_false_of_ne_true fun h => ?_)
    obtain ⟨heven, hne⟩ := lqFormOk_iff.mp h
    exact hinvalid.elim (fun hodd => by rw [heven] at hodd; cases hodd) hne
  · rw [exec_stq]
    exact State.quadTests_of_invalid hq hp (eq_false_of_ne_true fun h => by rw [stqFormOk_iff.mp h] at hodd; cases hodd)
  · obtain ⟨hentered, hsrr0, hdar, hdsisr⟩ := s.alignment_quad (lqDsisr r dq ra s.run.draws) (lqEa s dq ra)
    exact ⟨_, (exec_lq r dq ra s).trans (State.quadTests_of_unaligned hq hp (lqFormOk_iff.mpr ⟨heven, hne⟩) hea),
      hentered, hsrr0, hdar, hdsisr ▸ lqDsisr_and r dq ra _, rfl, rfl⟩
  · obtain ⟨hentered, hsrr0, hdar, hdsisr⟩ := s.alignment_quad (stqDsisr r ds ra s.run.draws) (stqEa s ds ra)
    exact ⟨_, (exec_stq r ds ra s).trans (State.quadTests_of_unaligned hq hp (stqFormOk_iff.mpr heven) hea),
      hentered, hsrr0, hdar, hdsisr ▸ stqDsisr_and r ds ra _, rfl, rfl⟩
  · have hstopped (store : Bool) (ea : Word) := s.dataStorage_stopped (hbitIf 6 store) ea
    refine ⟨fun hne hea => ?_, fun hea => ?_⟩
    · obtain ⟨hnext, hdsisr⟩ := State.overflowTest_of_overflow hdr ho false (lqEa s dq ra)
        ((s.dataAccess (.quad false) (lqEa s dq ra) 16).andThen fun a t => .next (t.loadQuad r a (lqEa s dq ra)))
      refine ⟨s.dataStorage (hbitIf 6 false) (lqEa s dq ra), ?_, (hstopped _ _).entered, (hstopped _ _).srr0, rfl, hdsisr, rfl, rfl⟩
      rw [exec_lq, State.quadTests_of_aligned hq hp (lqFormOk_iff.mpr ⟨heven, hne⟩) hea, hnext]
    · obtain ⟨hnext, hdsisr⟩ := State.overflowTest_of_overflow hdr ho true (stqEa s ds ra)
        ((s.dataAccess (.quad true) (stqEa s ds ra) 16).andThen fun a t => s.alter (t.storeQuad r a (stqEa s ds ra)))
      refine ⟨s.dataStorage (hbitIf 6 true) (stqEa s ds ra), ?_, (hstopped _ _).entered, (hstopped _ _).srr0, rfl, hdsisr, rfl, rfl⟩
      rw [exec_stq, State.quadTests_of_aligned hq hp (stqFormOk_iff.mpr heven) hea, hnext]

end Sys2Proof.Machine
end

section
/-! PROOFS. What Book III adds to words of Books I and II (O28): Floating-Point Unavailable, Trap, the invalid `lswx`, and the
operand of a Load And Reserve or Store Conditional. -/

namespace Sys2Proof.Machine

theorem State.needsFp_of_unavailable {s : State} (hfp : fp s.msr = false) (f : Result) :
    s.needsFp true f = .next (s.takeInterrupt .fpUnavailable s.cia 0) := by
  simp [State.needsFp, hfp]

/-! ### Floating-point and string words -/

theorem execStorage_of_float {x : StorageWord} (w : Half) (b : Option BaseEffect) {s : State} (hfloat : x.kind.traits.float = true)
    (hfp : fp s.msr = false) : execStorage x w b s = .next (s.takeInterrupt .fpUnavailable s.cia 0) := by
  obtain ⟨kind, form, update, listed⟩ := x
  have hlegal : (⟨kind, form, update, listed⟩ : StorageWord).illegal w s = false := by
    cases kind <;> simp_all [StorageWord.illegal, StorageKind.traits, Traits.none]
  have hexternal (f : Result) : kind.external s f = f := by
    cases kind <;> simp_all [StorageKind.external, StorageKind.traits, Traits.none]
  rw [execStorage, hlegal, hexternal, hfloat, State.needsFp_of_unavailable hfp]
  rfl

/-- XER[57:63] counts the bytes of an `lswx`. -/
theorem xer_count (x : Word) : (field x 57 7).toNat = x.toNat % 128 := by simp [field, BitVec.extractLsb'_toNat]

theorem StorageWord.illegal_iff_of_lswx {x : StorageWord} (w : Half) (s : State) (hk : x.kind = .loadString true) :
    x.illegal w s = true ↔ (w.extractLsb' 16 5 - w.extractLsb' 21 5).toNat < (s.bookI.xer.toNat % 128 + 3) / 4
      ∨ (w.extractLsb' 11 5 - w.extractLsb' 21 5).toNat < (s.bookI.xer.toNat % 128 + 3) / 4 := by
  rw [StorageWord.illegal, StorageWord.length, hk]
  simp only [xer_count, loadsRegister, beq_self_eq_true, Bool.true_and, Bool.or_eq_true, decide_eq_true_eq]
  rfl

/-! ### The operand of a Load And Reserve or Store Conditional -/

theorem StorageWord.ea32_ea (x : StorageWord) (w : Half) (s : State) : ea32 s.msr (x.ea w s) = x.ea w s := ea32_ea32 _ _

/-- An aligned word or doubleword does not leave the effective addresses of its mode. -/
theorem eaAfter_of_aligned {m ea : Word} {n : Nat} (hn : n = 4 ∨ n = 8) (hmode : ea32 m ea = ea) (halign : ea.toNat % n = 0) :
    (eaAfter m ea (n - 1)).toNat = ea.toNat + (n - 1) := by
  have hlt : ea.toNat < 2 ^ 64 := ea.isLt
  have hsum : (ea + BitVec.ofNat 64 (n - 1)).toNat = ea.toNat + (n - 1) := by
    rw [BitVec.toNat_add, BitVec.toNat_ofNat]
    obtain rfl | rfl := hn <;> omega
  by_cases hsf : sf m = true
  · rw [eaAfter, ea32, if_pos hsf, hsum]
  · have hword : ea.toNat % 2 ^ 32 = ea.toNat := by
      have h := congrArg BitVec.toNat hmode
      rw [ea32, if_neg hsf, zext, low, BitVec.toNat_setWidth, BitVec.toNat_setWidth] at h
      omega
    rw [eaAfter, ea32, if_neg hsf, zext, low, BitVec.toNat_setWidth, BitVec.toNat_setWidth, hsum]
    obtain rfl | rfl := hn <;> omega

theorem State.crossesSegment_of_aligned {s : State} {ea : Word} {n : Nat} (hn : n = 4 ∨ n = 8) (hmode : ea32 s.msr ea = ea)
    (halign : ea.toNat % n = 0) : s.crossesSegment ea n = false := by
  have hsegment : field ea 0 36 = field (lastByte s.msr ea n) 0 36 := by
    apply BitVec.eq_of_toNat_eq
    simp only [lastByte, field, BitVec.extractLsb'_toNat, Nat.shiftRight_eq_div_pow, eaAfter_of_aligned hn hmode halign]
    obtain rfl | rfl := hn <;> omega
  simp [State.crossesSegment, hsegment]

theorem partsOf_of_aligned {m ea : Word} {n : Nat} (hn : n = 4 ∨ n = 8) (halign : ea.toNat % n = 0) :
    partsOf m ea n = [Part.whole ea n] := by
  have hroom : n ≤ 4096 - (field ea 52 12).toNat := by
    have hoffset : (field ea 52 12).toNat = ea.toNat % 4096 := by simp [field, BitVec.extractLsb'_toNat]
    rw [hoffset]
    obtain rfl | rfl := hn <;> omega
  rw [partsOf]
  exact (if_neg (by omega)).trans (if_pos hroom)

section Reserve

variable {x : StorageWord} {n : Nat} {s : State} (w : Half) (hk : x.kind = .loadReserve n ∨ x.kind = .storeConditional n)
include hk

theorem StorageWord.length_of_reserve : x.length w s = n := by
  obtain hk | hk := hk <;> rw [StorageWord.length, hk]

theorem StorageWord.unit_of_reserve : x.unit n = n := by
  obtain hk | hk := hk <;> rw [StorageWord.unit, hk]

theorem State.misaligned_of_reserve :
    s.misaligned x w = (!alignedTo n (x.ea w s) || s.crossesSegment (x.ea w s) n) := by
  rw [State.misaligned, StorageWord.length_of_reserve w hk, StorageWord.unit_of_reserve hk]
  obtain hk | hk := hk <;> simp [hk, StorageKind.traits, Traits.none]

/-- Only its operand can stop it. -/
theorem execStorage_of_reserve (b : Option BaseEffect) : ∃ f, execStorage x w b s =
    if s.misaligned x w then .next (x.takeAlignment w s) else x.overflowTest w s ((x.accessOperand w s).andThen f) := by
  refine ⟨fun ts t => withBase b (x.kind.unknown w) fun e =>
    if x.kind.writes s then s.alter (((t.applied e).withOperand (x.ea w s)).storeBytes ts e.stored)
    else .next ((t.applied e).withOperand (x.ea w s)), ?_⟩
  obtain hk | hk := hk <;>
    simp [execStorage, StorageWord.illegal, hk, StorageKind.external, State.needsFp, StorageKind.traits, Traits.none]

theorem StorageWord.dsisr_of_reserve (hx : x.form = .x) : ∃ ra, x.dsisr w s = alignDsisrX w ra := by
  refine ⟨if x.reportsRa w (x.length w s) then raOf w else (Config.freeHalf s.run.draws).setWidth 5, ?_⟩
  obtain hk | hk := hk <;> simp [StorageWord.dsisr, hk, hx]

/-- It stops at an unaligned operand, before anything else of the access is reported. -/
theorem execStorage_of_unaligned (b : Option BaseEffect) (hx : x.form = .x) (hea : (x.ea w s).toNat % n ≠ 0) :
    ∃ t ra, execStorage x w b s = .next t ∧ StoppedAt s t .alignment ∧ t.spr.dar = x.ea w s ∧ t.spr.dsisr = alignDsisrX w ra := by
  obtain ⟨f, hexec⟩ := execStorage_of_reserve (s := s) w hk b
  obtain ⟨ra, hdsisr⟩ := StorageWord.dsisr_of_reserve (s := s) w hk hx
  refine ⟨x.takeAlignment w s, ra, ?_, ((s.drawn 1).alignment_stopped _ _).of_same ⟨_, _, rfl⟩, rfl, hdsisr⟩
  rw [hexec, State.misaligned_of_reserve w hk]
  simp [alignedTo, hea]

section Aligned

variable (b : Option BaseEffect) (hn : n = 4 ∨ n = 8) (hea : (x.ea w s).toNat % n = 0)
  (hperformed : x.kind = .loadReserve n ∨ s.bookI.reservation ≠ none ∨ s.cfg.stcxFailDsi = true)
include hn hea

theorem execStorage_of_aligned : ∃ f, execStorage x w b s = x.overflowTest w s ((x.accessOperand w s).andThen f) := by
  obtain ⟨f, hexec⟩ := execStorage_of_reserve (s := s) w hk b
  refine ⟨f, hexec.trans (if_neg ?_)⟩
  rw [State.misaligned_of_reserve w hk, State.crossesSegment_of_aligned hn (x.ea32_ea w s) hea]
  simp [alignedTo, hea]

include hperformed

theorem StorageWord.parts_of_reserve : x.parts w s = [Part.whole (x.ea w s) n] := by
  have hexempt : x.exempt s = false := by
    obtain hk | hk := hk
    · simp [StorageWord.exempt, StorageKind.performed, hk]
    · obtain h | h | h := hperformed
      · rw [hk] at h
        cases h
      · simp [StorageWord.exempt, StorageKind.performed, hk, Option.isSome_iff_ne_none.mpr h]
      · simp [StorageWord.exempt, h]
  rw [StorageWord.parts, StorageWord.length_of_reserve w hk, hexempt, partsOf_of_aligned hn hea]
  obtain hk | hk := hk <;> simp [hk, StorageKind.traits, Traits.none]

end Aligned

theorem StorageKind.access_store_of_reserve : (x.kind.access s).store = decide (x.kind = .storeConditional n) := by
  obtain hk | hk := hk
  · simp [hk, StorageKind.access, AccessKind.reserve, AccessKind.load]
  · rw [hk, StorageKind.access]
    split <;> simp [AccessKind.reserve, AccessKind.write]

theorem StorageKind.access_noWI_of_reserve : (x.kind.access s).noWI = true := by
  obtain hk | hk := hk
  · rw [hk]; rfl
  · rw [hk, StorageKind.access]
    split <;> rfl

end Reserve

/-! ### Storage that is Write Through Required or Caching Inhibited -/

theorem State.violate_wi (s : State) {v : Violation} (hwi : v.wi = true) (store : Bool) (dar : Word) :
    s.violate v store dar = s.dataStorage (v.dsisr store) dar := by
  simp [State.violate, hwi]

/-- A page with one of W and I stops an access that asks for neither, with DSISR[5]. -/
theorem State.probe_of_wi {s : State} {k : AccessKind} {x : Part} {b : SlbEntry} {e : TlbEntry} {cached : Bool}
    (hno : k.noWI = true) (hwi : e.w ≠ e.i) : ∃ t, s.probe k (.mapped b e cached) x = .trap t ∧ StoppedAt s t .dataStorage
      ∧ t.spr.dar = x.dar ∧ hbit t.spr.dsisr 5 = true ∧ hbit t.spr.dsisr 6 = k.store := by
  have hone : (e.w || e.i) = true ∧ (e.w && e.i) = false := by
    revert hwi
    cases e.w <;> cases e.i <;> simp
  obtain ⟨heither, hboth⟩ := hone
  have hviolates : (s.mappedViolation k x b e).wi = true := by simp [State.mappedViolation, hno, heither]
  have hany : (s.mappedViolation k x b e).any = true := by simp [Violation.any, hviolates]
  refine ⟨((s.drawn 3).keep e cached).dataStorage ((s.mappedViolation k x b e).dsisr k.store) x.dar, ?_,
    (State.dataStorage_stopped _ _ _).of_same ⟨_, _, rfl⟩, rfl, ?_, ?_⟩
  · rw [← State.violate_wi _ hviolates]
    simp [State.probe, hboth, hany]
  · show hbit ((s.mappedViolation k x b e).dsisr k.store ||| hbitIf 15 _) 5 = true
    simp [Violation.dsisr, hbit_or, hbit_hbitIf, hviolates]
  · show hbit ((s.mappedViolation k x b e).dsisr k.store ||| hbitIf 15 _) 6 = k.store
    simp [Violation.dsisr, hbit_or, hbit_hbitIf]

section Attributes

variable {x : StorageWord} {n : Nat} {s : State} (w : Half) (hk : x.kind = .loadReserve n ∨ x.kind = .storeConditional n)
  (hn : n = 4 ∨ n = 8) (hea : (x.ea w s).toNat % n = 0)
  (hperformed : x.kind = .loadReserve n ∨ s.bookI.reservation ≠ none ∨ s.cfg.stcxFailDsi = true)
include hk hea

/-- The attributes of its storage are no cause of an Alignment interrupt for an aligned one. -/
theorem State.attributesStop_of_reserve (now : Option (BitVec 4)) :
    s.attributesStop (x.attributeCauses w s) none now = false := by
  have haligned : alignedTo n (x.ea w s) = true := by simp [alignedTo, hea]
  have hinhibited : (x.attributeCauses w s).inhibited = false := by
    rw [StorageWord.attributeCauses, StorageWord.length_of_reserve w hk, StorageWord.unit_of_reserve hk, haligned]
    obtain hk | hk := hk <;> simp [hk, StorageKind.traits, Traits.none]
  simp [State.attributesStop, hinhibited]

include hn hperformed

theorem StorageWord.accessOperand_of_wi {c : SlbEntry} {e : TlbEntry} {cached : Bool}
    (hpath : s.path (dr s.msr) (x.ea w s) = .mapped c e cached) (hwi : e.w ≠ e.i) :
    ∃ t, x.accessOperand w s = .trap t ∧ StoppedAt s t .dataStorage ∧ t.spr.dar = x.ea w s
      ∧ hbit t.spr.dsisr 5 = true ∧ hbit t.spr.dsisr 6 = decide (x.kind = .storeConditional n) := by
  obtain ⟨t, hprobe, hstopped, hdar, hcause, hstore⟩ := State.probe_of_wi (s := s) (x := Part.whole (x.ea w s) n) (b := c)
    (cached := cached) (StorageKind.access_noWI_of_reserve (s := s) hk) hwi
  refine ⟨t, ?_, hstopped, hdar, hcause, hstore.trans (StorageKind.access_store_of_reserve hk)⟩
  have hlength : x.length w s ≠ 0 := by rw [StorageWord.length_of_reserve w hk]; omega
  have hsupported : (Path.mapped c e cached).unsupported = false := by
    revert hwi
    rw [Path.unsupported]
    cases e.w <;> cases e.i <;> simp
  rw [StorageWord.accessOperand, if_neg hlength, StorageWord.parts_of_reserve w hk hn hea hperformed]
  simp only [State.accessAll, State.probeAll]
  rw [show (Part.whole (x.ea w s) n).ea = x.ea w s from rfl, hpath, hsupported, State.attributesStop_of_reserve w hk hea, hprobe]
  rfl

end Attributes

/-- Settles O28: the tests that a word of Books I and II meets, in their order, each with the interrupt that it takes. -/
theorem outsideInstructionInterrupts : Obligations.OutsideInstructionInterrupts := by
  intro w b s stopped
  have stopped_of {k : IntKind} {t : State} (h : StoppedAt s t k) : stopped k t :=
    ⟨h.entered, h.srr0, h.srr1, h.gpr, h.bookI, h.mem⟩
  refine ⟨fun hfp => ?_, fun e htraps => ?_, fun x hk hloads => ?_, ?_, fun listed e => rfl⟩
  · have hunavailable := stopped_of (s.takeInterrupt_stopped (k := .fpUnavailable) rfl)
    exact ⟨⟨_, State.needsFp_of_unavailable hfp _, hunavailable⟩,
      fun x hfloat => ⟨_, execStorage_of_float w b hfloat hfp, hunavailable⟩⟩
  · rw [execOutside, withBase, htraps]
    exact s.raise_eq .trap
  · rw [execStorage, (StorageWord.illegal_iff_of_lswx w s hk).mpr hloads]
    exact s.raise_eq .illegal
  · intro x n hx _ hk hn ea
    refine ⟨fun hea => ?_, fun hea hperformed => ?_⟩
    · obtain ⟨t, ra, hnext, hstopped, hdar, hdsisr⟩ := execStorage_of_unaligned w hk b hx hea
      exact ⟨t, hnext, stopped_of hstopped, hdar, hdsisr ▸ alignDsisrX_and w ra⟩
    · obtain ⟨f, hexec⟩ := execStorage_of_aligned w hk b hn hea
      have hparts := StorageWord.parts_of_reserve w hk hn hea hperformed
      have htest (g : Result) : x.overflowTest w s g = s.overflowTest (decide (x.kind = .storeConditional n)) ea g := by
        rw [StorageWord.overflowTest, hparts, StorageKind.access_store_of_reserve hk]
        rfl
      rw [hexec, htest]
      refine ⟨fun hover => ?_, fun c e cached hover hpath hwi => ?_⟩
      · obtain ⟨hdr, ho⟩ := (Bool.and_eq_true _ _).mp hover
        obtain ⟨hnext, hdsisr⟩ := State.overflowTest_of_overflow hdr ho (decide (x.kind = .storeConditional n)) ea
          ((x.accessOperand w s).andThen f)
        refine ⟨_, hnext, stopped_of (s.dataStorage_stopped _ _), rfl, hdsisr.trans ?_⟩
        by_cases hstore : x.kind = .storeConditional n
        · simp [hstore, hbitIf, hmask]
        · simp [hstore, hbitIf]
      · obtain ⟨t, hoperand, hstopped, hdar, hcause, hstore⟩ := StorageWord.accessOperand_of_wi w hk hn hea hperformed hpath hwi
        refine ⟨t, ?_, stopped_of hstopped, hdar, hcause, hstore⟩
        rw [State.overflowTest, hover, hoperand]
        rfl

end Sys2Proof.Machine
end

section
/-! PROOFS. The Page Table search (O57): the hash, the address of a group, the match, the candidates, and what a lookup answers. -/

namespace Sys2Proof.Machine

/-! ### The hash and the address of a group -/

theorem toNat_append_eq {m n : Nat} (x : BitVec m) (y : BitVec n) : (x ++ y).toNat = x.toNat * 2 ^ n + y.toNat := by
  rw [BitVec.toNat_append, ← Nat.shiftLeft_add_eq_or_of_lt y.isLt, Nat.shiftLeft_eq]

theorem primaryHash_toNat (c : Params) (large : Bool) (va : BitVec 80) : (primaryHash c large va).toNat =
    (va.toNat / 2 ^ 28 % 2 ^ 39) ^^^ (va.toNat % 2 ^ 28 / 2 ^ pageBits c large) := by
  have hindex : va.toNat % 2 ^ 28 / 2 ^ pageBits c large < 2 ^ 39 :=
    lt_of_le_of_lt (Nat.div_le_self _ _) (by omega)
  rw [primaryHash, BitVec.toNat_xor, BitVec.extractLsb'_toNat, BitVec.toNat_setWidth, BitVec.toNat_ushiftRight,
    BitVec.toNat_setWidth, Nat.shiftRight_eq_div_pow, Nat.shiftRight_eq_div_pow, Nat.mod_eq_of_lt hindex]

/-- The mask of HTABSIZE keeps as many low-order bits as HTABSIZE says. -/
theorem and_htabMask_toNat (x : BitVec 28) {sdr1 : Word} (hsize : htabSize sdr1 ≤ 28) :
    (x &&& htabMask sdr1).toNat = x.toNat % 2 ^ htabSize sdr1 := by
  have hmask : (htabMask sdr1).toNat = 2 ^ htabSize sdr1 - 1 := by
    rw [htabMask, BitVec.toNat_sub, BitVec.toNat_shiftLeft, show (1 : BitVec 28).toNat = 1 from rfl,
      show (1#28).toNat = 1 from rfl, Nat.shiftLeft_eq]
    have hpos : 0 < 2 ^ htabSize sdr1 := Nat.two_pow_pos _
    have hle : 2 ^ htabSize sdr1 ≤ 2 ^ 28 := Nat.pow_le_pow_right (by decide) hsize
    omega
  rw [BitVec.toNat_and, hmask, Nat.and_two_pow_sub_one_eq_mod]

theorem ptegAddr_toNat (sdr1 : Word) (h : BitVec 39) (hsize : htabSize sdr1 ≤ 28) : (ptegAddr sdr1 h).toNat =
    (sdr1.toNat / 2 ^ 46 % 2 ^ 16) * 2 ^ 46
      + ((h.toNat / 2 ^ 11 % 2 ^ htabSize sdr1) ||| (sdr1.toNat / 2 ^ 18 % 2 ^ 28)) * 2 ^ 18 + h.toNat % 2 ^ 11 * 2 ^ 7 := by
  have horigin : (field sdr1 2 16).toNat = sdr1.toNat / 2 ^ 46 % 2 ^ 16 := by
    rw [field, BitVec.extractLsb'_toNat, Nat.shiftRight_eq_div_pow]
  have hlow : (field sdr1 18 28).toNat = sdr1.toNat / 2 ^ 18 % 2 ^ 28 := by
    rw [field, BitVec.extractLsb'_toNat, Nat.shiftRight_eq_div_pow]
  have hhash : (h.extractLsb' 11 28).toNat = h.toNat / 2 ^ 11 := by
    rw [BitVec.extractLsb'_toNat, Nat.shiftRight_eq_div_pow]
    have hlt := h.isLt
    omega
  have happend : (ptegAddr sdr1 h).toNat = (((field sdr1 2 16).toNat * 2 ^ 28
      + ((h.extractLsb' 11 28 &&& htabMask sdr1) ||| field sdr1 18 28).toNat) * 2 ^ 11 + (h.setWidth 11).toNat) * 2 ^ 7 := by
    rw [ptegAddr, toNat_append_eq, toNat_append_eq, toNat_append_eq, show (0#7).toNat = 0 from rfl, Nat.add_zero]
  rw [happend, BitVec.toNat_or, and_htabMask_toNat _ hsize, horigin, hlow, hhash, BitVec.toNat_setWidth]
  ring

/-! ### The match and the candidates -/

theorem Pte.hits_iff (c : Params) (t : Pte) (large second : Bool) (va : BitVec 80) : t.hits c large second va = true ↔
    bit t.dw0 62 = second ∧ bit t.dw0 63 = true ∧ bit t.dw0 61 = large
      ∧ t.dw0.toNat / 2 ^ (12 - min 5 (28 - pageBits c large)) = va.toNat / 2 ^ (28 - min 5 (28 - pageBits c large)) := by
  have hq : min 5 (28 - pageBits c large) ≤ 5 := min_le_left _ _
  rw [Pte.hits, avpnCompared]
  generalize min 5 (28 - pageBits c large) = q at hq ⊢
  have hfits : va.toNat / 2 ^ (28 - q) < 2 ^ 64 := by
    have hlt := va.isLt
    rw [Nat.div_lt_iff_lt_mul (Nat.two_pow_pos _), ← Nat.pow_add]
    exact lt_of_lt_of_le hlt (Nat.pow_le_pow_right (by decide) (by omega))
  rw [show 64 - (52 + q) = 12 - q by omega, show 80 - (52 + q) = 28 - q by omega]
  simp only [Bool.and_eq_true, beq_iff_eq, ← BitVec.toNat_inj, BitVec.toNat_setWidth, BitVec.toNat_ushiftRight,
    Nat.shiftRight_eq_div_pow, Nat.mod_eq_of_lt hfits, and_assoc]

theorem State.mem_pteg (s : State) (a : RealAddr) (t : Pte) : t ∈ s.pteg a ↔
    ∃ i : Fin 8, t = ⟨a + BitVec.ofNat 62 (16 * i.val), s.readDw (a + BitVec.ofNat 62 (16 * i.val)),
      s.readDw (a + BitVec.ofNat 62 (16 * i.val) + 8)⟩ := by
  simp only [State.pteg, List.mem_map, List.mem_range]
  constructor
  · rintro ⟨i, hi, rfl⟩
    exact ⟨⟨i, hi⟩, rfl⟩
  · rintro ⟨i, rfl⟩
    exact ⟨i.val, i.isLt, rfl⟩

theorem State.mem_pteMatches (s : State) (large : Bool) (va : BitVec 80) (t : Pte) : t ∈ s.pteMatches large va ↔
    ∃ second : Bool, t ∈ s.pteg (ptegAddr s.spr.sdr1 (if second then ~~~primaryHash s.cfg large va else primaryHash s.cfg large va))
      ∧ t.hits s.cfg large second va = true := by
  simp [State.pteMatches, Bool.exists_bool]

/-! ### What the search and the lookup answer -/

theorem pickOne_mem {α : Type} (x : α) (xs : List α) (n : Nat) : pickOne x xs n ∈ x :: xs := by
  cases xs with
  | nil => exact List.mem_singleton_self x
  | cons y ys =>
    have hlt : Config.freeIndex n % ((y :: ys).length + 1) < (x :: y :: ys).length := Nat.mod_lt _ (Nat.succ_pos _)
    rw [pickOne, List.getD_eq_getElem _ _ hlt]
    exact List.getElem_mem hlt

section Search

variable {s : State} {large : Bool} {va : BitVec 80} (hsize : htabSize s.spr.sdr1 ≤ s.cfg.htabSizeMax)
  (hpresent : s.ptegAbsent large va = false)
include hsize hpresent

theorem State.searchTable_of_none (hnone : s.pteMatches large va = []) : s.searchTable large va = .miss := by
  rw [State.searchTable, if_neg (Nat.not_lt.mpr hsize), hpresent, hnone]
  rfl

theorem State.searchTable_of_some {t : Pte} {ts : List Pte} (hsome : s.pteMatches large va = t :: ts) : s.searchTable large va =
    if !(ts.all fun u => t.same u) then .refuse .duplicatePte
    else if t.proper s.cfg large then .hit ((pickOne t ts s.run.draws).entry s.cfg large va) false else .refuse .badPte := by
  rw [State.searchTable, if_neg (Nat.not_lt.mpr hsize), hpresent, hsome]
  rfl

theorem State.searchTable_eq_miss_iff : s.searchTable large va = .miss ↔ s.pteMatches large va = [] := by
  cases hmatches : s.pteMatches large va with
  | nil => simp [State.searchTable_of_none hsize hpresent hmatches]
  | cons t ts =>
    rw [State.searchTable_of_some hsize hpresent hmatches]
    split
    · simp
    · split <;> simp

/-- Matches that agree answer with one of them. -/
theorem State.searchTable_of_agree (hproper : ∃ t ∈ s.pteMatches large va, t.proper s.cfg large = true)
    (hagree : ∀ t ∈ s.pteMatches large va, ∀ u ∈ s.pteMatches large va,
      t.same u = true ∧ t.proper s.cfg large = u.proper s.cfg large) :
    ∃ t ∈ s.pteMatches large va, s.searchTable large va = .hit (t.entry s.cfg large va) false := by
  cases hmatches : s.pteMatches large va with
  | nil => simp [hmatches] at hproper
  | cons t ts =>
    have hsearch := State.searchTable_of_some hsize hpresent hmatches
    rw [hmatches] at hproper hagree
    obtain ⟨u, hu, huproper⟩ := hproper
    have hsame : ts.all (fun u => t.same u) = true :=
      List.all_eq_true.mpr fun v hv => (hagree t (List.mem_cons_self ..) v (List.mem_cons_of_mem _ hv)).1
    have htproper : t.proper s.cfg large = true := (hagree t (List.mem_cons_self ..) u hu).2.trans huproper
    refine ⟨pickOne t ts s.run.draws, pickOne_mem t ts _, hsearch.trans ?_⟩
    rw [hsame, htproper]
    rfl

end Search

theorem State.mem_tlbMatches (s : State) (large : Bool) (va : BitVec 80) (e : TlbEntry) : e ∈ s.tlbMatches large va ↔
    s.cfg.hasTlb = true ∧ e ∈ s.tlb ∧ e.large = large ∧ e.vpn = vpnOf s.cfg large va := by
  rw [State.tlbMatches]
  split
  next h => simp [h]
  next h => simp [h]

theorem State.lookup_of_cached {s : State} {large : Bool} {va : BitVec 80} (h : ∃ e, e ∈ s.tlbMatches large va) :
    ∃ e ∈ s.tlbMatches large va, s.lookup large va = .hit e true := by
  rw [State.lookup]
  cases htlb : s.tlbMatches large va with
  | nil => simp [htlb] at h
  | cons e es => exact ⟨_, pickOne_mem e es s.run.draws, rfl⟩

theorem State.lookup_of_not_cached {s : State} {large : Bool} {va : BitVec 80} (h : ¬∃ e, e ∈ s.tlbMatches large va) :
    s.lookup large va = s.searchTable large va := by
  rw [State.lookup, List.eq_nil_iff_forall_not_mem.mpr fun e he => h ⟨e, he⟩]

/-- Settles O57: the parts of the search, each by the lemma that says it. -/
theorem pageTableSearch : Obligations.PageTableSearch := by
  refine ⟨primaryHash_toNat, ptegAddr_toNat, Pte.hits_iff, fun s large va t => ?_, fun s large va hsize hpresent => ?_,
    fun s large va => ?_⟩
  · rw [State.mem_pteMatches]
    simp only [State.mem_pteg]
    exact ⟨fun ⟨second, ⟨i, ht⟩, hhits⟩ => ⟨second, i, ht, hhits⟩, fun ⟨second, i, ht, hhits⟩ => ⟨second, ⟨i, ht⟩, hhits⟩⟩
  · exact ⟨State.searchTable_eq_miss_iff hsize hpresent, State.searchTable_of_agree hsize hpresent⟩
  · intro cached
    have hcached (e : TlbEntry) : cached e ↔ e ∈ s.tlbMatches large va := (s.mem_tlbMatches large va e).symm
    simp only [hcached]
    exact ⟨State.lookup_of_cached, State.lookup_of_not_cached⟩

end Sys2Proof.Machine
end

section
/-! PROOFS. Doublewords of real storage (O60). -/

namespace Sys2Proof.Machine

/-! ### A doubleword written, byte by byte (R131, D23) -/

theorem append_byteOf (x : Word) : byteOf x 0 ++ byteOf x 1 ++ byteOf x 2 ++ byteOf x 3 ++ byteOf x 4 ++ byteOf x 5
    ++ byteOf x 6 ++ byteOf x 7 = x := by
  simp only [byteOf, Nat.reduceMul, Nat.reduceSub, Nat.sub_zero]
  rw [BitVec.extractLsb'_append_extractLsb'_eq_extractLsb' (by rfl), BitVec.extractLsb'_append_extractLsb'_eq_extractLsb' (by rfl),
    BitVec.extractLsb'_append_extractLsb'_eq_extractLsb' (by rfl), BitVec.extractLsb'_append_extractLsb'_eq_extractLsb' (by rfl),
    BitVec.extractLsb'_append_extractLsb'_eq_extractLsb' (by rfl), BitVec.extractLsb'_append_extractLsb'_eq_extractLsb' (by rfl),
    BitVec.extractLsb'_append_extractLsb'_eq_extractLsb' (by rfl)]
  exact BitVec.extractLsb'_eq_self

theorem State.readDw_of_bytes {s : State} {a : RealAddr} {x : Word}
    (h : ∀ k, k < 8 → s.byte (a + BitVec.ofNat 62 k) = byteOf x k) : s.readDw a = x := by
  have hfirst : s.byte a = byteOf x 0 := by simpa using h 0 (by decide)
  rw [← append_byteOf x, ← hfirst, ← h 1 (by decide), ← h 2 (by decide), ← h 3 (by decide), ← h 4 (by decide), ← h 5 (by decide),
    ← h 6 (by decide), ← h 7 (by decide)]
  rfl

/-- The bytes of the doubleword lie at the addresses from `a`, the most significant first; every other byte is as before. -/
theorem State.byte_writeDw (s : State) (a y : RealAddr) (x : Word) :
    (s.writeDw a x).byte y = if (y - a).toNat < 8 then byteOf x (y - a).toNat else s.byte y := by
  obtain ⟨d, rfl⟩ : ∃ d, y = a + d := ⟨y - a, (add_sub_cancel a y).symm⟩
  have hbyte (k : RealAddr) (t : State) (v : Byte) : (t.setByte (a + k) v).byte (a + d) = if d = k then v else t.byte (a + d) := by
    simp only [State.byte_setByte, BitVec.add_right_inj]
  have hfirst (t : State) (v : Byte) : (t.setByte a v).byte (a + d) = if d = 0 then v else t.byte (a + d) := by
    simpa using hbyte 0 t v
  rw [add_sub_cancel_left, State.writeDw_eq]
  simp only [hbyte, hfirst]
  by_cases hlt : d.toNat < 8
  · rw [if_pos hlt]
    obtain ⟨k, hk, rfl⟩ : ∃ k, k < 8 ∧ d = BitVec.ofNat 62 k := ⟨d.toNat, hlt, by simp⟩
    interval_cases k <;> rfl
  · have hne (k : Nat) (hk : k < 8) : d ≠ BitVec.ofNat 62 k := fun h => hlt (by rw [h, BitVec.toNat_ofNat]; omega)
    simp [hlt, hne 0, hne 1, hne 2, hne 3, hne 4, hne 5, hne 6, hne 7]

theorem State.byte_writeDw_within (s : State) (a : RealAddr) (x : Word) {k : Nat} (hk : k < 8) :
    (s.writeDw a x).byte (a + BitVec.ofNat 62 k) = byteOf x k := by
  have hoffset : (a + BitVec.ofNat 62 k - a).toNat = k := by
    rw [add_sub_cancel_left, BitVec.toNat_ofNat]
    omega
  rw [State.byte_writeDw, hoffset, if_pos hk]

theorem State.byte_writeDw_outside (s : State) {a y : RealAddr} (x : Word) (hy : ¬within y a 8) :
    (s.writeDw a x).byte y = s.byte y := by
  rw [State.byte_writeDw]
  exact if_neg hy

theorem State.readDw_writeDw (s : State) (a : RealAddr) (x : Word) : (s.writeDw a x).readDw a = x :=
  State.readDw_of_bytes fun _ hk => s.byte_writeDw_within a x hk

/-- Settles O60: each byte is read off `State.byte_writeDw`, and the eight bytes make up the doubleword. -/
theorem doublewordStorage : Obligations.DoublewordStorage := by
  intro s a x
  have hfirst : (s.writeDw a x).byte a = byteOf x 0 := by simpa using s.byte_writeDw_within a x (k := 0) (by decide)
  exact ⟨s.readDw_writeDw a x, hfirst, s.byte_writeDw_within a x (by decide), fun _ hy => s.byte_writeDw_outside x hy,
    s.wf_writeDw a x⟩

end Sys2Proof.Machine
end

section
/-! PROOFS. Real addressing mode (O54, O55), and a fetch in it (O5). -/

namespace Sys2Proof.Machine

/-! ### The bits of a real address (R8, R154) -/

theorem setWidth_62 (x : Word) : (x.setWidth 62 : RealAddr) = x.extractLsb' 0 62 :=
  BitVec.setWidth_eq_extractLsb' (by decide)

/-- The mask of `m` bits keeps as many low-order bits of a real address. -/
theorem and_realMask_toNat (c : Params) (a : RealAddr) : (a &&& (realMask c).setWidth 62).toNat = a.toNat % 2 ^ c.realBits := by
  have hshift : (1#64 <<< c.realBits).toNat = 2 ^ c.realBits % 2 ^ 64 := by simp [BitVec.toNat_shiftLeft, Nat.shiftLeft_eq]
  by_cases hm : c.realBits < 62
  · have hlt : 2 ^ c.realBits < 2 ^ 62 := Nat.pow_lt_pow_right (by decide) hm
    have hpos : 0 < 2 ^ c.realBits := Nat.two_pow_pos _
    have hmask : ((realMask c).setWidth 62).toNat = 2 ^ c.realBits - 1 := by
      rw [realMask, BitVec.toNat_setWidth, BitVec.toNat_sub, hshift, show (1 : Word).toNat = 1 from rfl]
      omega
    rw [BitVec.toNat_and, hmask, Nat.and_two_pow_sub_one_eq_mod]
  · have hmask : (realMask c).setWidth 62 = BitVec.allOnes 62 := by
      obtain ⟨k, hk⟩ : ∃ k, 2 ^ c.realBits = 2 ^ 62 * k := pow_dvd_pow 2 (Nat.le_of_not_lt hm)
      apply BitVec.eq_of_toNat_eq
      rw [realMask, BitVec.toNat_setWidth, BitVec.toNat_sub, hshift, hk, show (1 : Word).toNat = 1 from rfl, BitVec.toNat_allOnes]
      omega
    have hlt : a.toNat < 2 ^ c.realBits := a.isLt.trans_le (Nat.pow_le_pow_right (by decide) (Nat.le_of_not_lt hm))
    rw [hmask, BitVec.and_allOnes, Nat.mod_eq_of_lt hlt]

/-- No bit beyond the `m` low-order ones is 1 exactly when the address is below 2^m. -/
theorem and_not_realMask_eq_zero_iff (c : Params) (a : RealAddr) :
    a &&& ~~~(realMask c).setWidth 62 = 0 ↔ a.toNat < 2 ^ c.realBits := by
  have hkept : a &&& ~~~(realMask c).setWidth 62 = 0 ↔ a &&& (realMask c).setWidth 62 = a := by
    rw [and_not_eq_zero_iff]
    constructor
    · intro h
      apply BitVec.eq_of_getLsbD_eq
      intro i hi
      have hbit := h i
      rw [BitVec.getLsbD_and]
      cases hai : a.getLsbD i <;> simp_all
    · intro h i hai
      have hbit := congrArg (·.getLsbD i) h
      simpa [hai] using hbit
  rw [hkept, ← BitVec.toNat_inj, and_realMask_toNat, Nat.mod_eq_iff_lt (Nat.two_pow_pos _).ne']

theorem rmlr_eq (c : Params) (l : Word) : rmlr c l = 2 ^ c.rmlsTable[(field l 35 3).toNat]! := by
  rw [rmlr, getElem!_pos c.rmlsTable (field l 35 3).toNat (field l 35 3).isLt]
  rfl

/-- What of a real address is compared with the limit (R156, D24). -/
def comparedWithLimit (c : Params) (a : RealAddr) : Nat := if c.rmlrIgnoreHigh then a.toNat % 2 ^ c.realBits else a.toNat

theorem comparedWithLimit_eq (c : Params) (a : RealAddr) :
    (if c.rmlrIgnoreHigh then a &&& (realMask c).setWidth 62 else a).toNat = comparedWithLimit c a := by
  rw [comparedWithLimit]
  split
  · exact and_realMask_toNat c a
  · rfl

/-! ### The path of an access in real addressing mode (R150, R152, R154, R156) -/

section RealMode

variable {s : State} {ea : Word} (hle : le s.msr = false)
include hle

theorem State.path_of_realMode_some {a : RealAddr} (hrange : s.realRange ea = true) (hmode : s.realMode ea = some a) :
    s.path false ea = .real a := by
  rw [State.path, hle, hrange, hmode]
  rfl

theorem State.path_of_realMode_none (hrange : s.realRange ea = true) (hmode : s.realMode ea = none) :
    s.path false ea = .denied := by
  rw [State.path, hle, hrange, hmode]
  rfl

section Hypervisor

variable (hhv : hv s.msr = true)
include hhv

theorem State.path_without_offset (h0 : bit ea 0 = true) : s.path false ea = .real (ea.extractLsb' 0 62) := by
  have hrange : s.realRange ea = true := by simp [State.realRange, h0]
  have hmode : s.realMode ea = some (ea.extractLsb' 0 62) := by simp [State.realMode, hhv, h0, setWidth_62]
  exact State.path_of_realMode_some hle hrange hmode

theorem State.path_with_hrmor (h0 : bit ea 0 = false) (hbelow : (ea.extractLsb' 0 62).toNat < 2 ^ s.cfg.realBits) :
    s.path false ea = .real (ea.extractLsb' 0 62 ||| s.spr.hrmor.extractLsb' 0 62) := by
  have hrange : s.realRange ea = true := by
    simp [State.realRange, setWidth_62 ea, (and_not_realMask_eq_zero_iff s.cfg _).mpr hbelow]
  have hmode : s.realMode ea = some (ea.extractLsb' 0 62 ||| s.spr.hrmor.extractLsb' 0 62) := by
    simp [State.realMode, hhv, h0, setWidth_62]
  exact State.path_of_realMode_some hle hrange hmode

theorem State.path_out_of_range (h0 : bit ea 0 = false) (hbeyond : 2 ^ s.cfg.realBits ≤ (ea.extractLsb' 0 62).toNat) :
    s.path false ea = .refuse .realAddressRange := by
  have hrange : s.realRange ea = false := by
    have hbits := (and_not_realMask_eq_zero_iff s.cfg (ea.extractLsb' 0 62)).not.mpr (Nat.not_lt.mpr hbeyond)
    simpa [State.realRange, hhv, h0, setWidth_62 ea] using hbits
  rw [State.path, hle, hrange]
  rfl

end Hypervisor

section Guest

variable (hhv : hv s.msr = false)
include hhv

theorem State.path_denied_of_lpes1 (hlpes : bit s.spr.lpcr 61 = false) : s.path false ea = .denied :=
  State.path_of_realMode_none hle (by simp [State.realRange, hhv]) (by simp [State.realMode, hhv, lpes1, hlpes])

/-- With HV=0 and LPES1=1 an address below the limit is ORed with RMOR. -/
theorem State.path_with_rmor (hlpes : bit s.spr.lpcr 61 = true) : s.path false ea =
    if comparedWithLimit s.cfg (ea.extractLsb' 0 62) < 2 ^ s.cfg.rmlsTable[(field s.spr.lpcr 35 3).toNat]!
    then .real ((ea.extractLsb' 0 62 ||| s.spr.rmor.extractLsb' 0 62) &&& (realMask s.cfg).setWidth 62) else .denied := by
  have hrange : s.realRange ea = true := by simp [State.realRange, hhv]
  split
  next hbelow =>
    refine State.path_of_realMode_some hle hrange ?_
    simp [State.realMode, hhv, lpes1, hlpes, setWidth_62 ea, setWidth_62 s.spr.rmor, rmlr_eq, comparedWithLimit_eq, hbelow]
  next hreached =>
    refine State.path_of_realMode_none hle hrange ?_
    simp [State.realMode, hhv, lpes1, hlpes, setWidth_62 ea, rmlr_eq, comparedWithLimit_eq, Nat.le_of_not_lt hreached]

end Guest

end RealMode

/-- Settles O54: with HV=1 and EA[0]=1 nothing offsets the address. -/
theorem realModeWithoutOffset : Obligations.RealModeWithoutOffset := fun _ _ hhv hle h0 =>
  State.path_without_offset hle hhv h0

/-! ### A fetch that takes an Instruction Storage interrupt (R468) -/

/-- SRR1 holds the MSR and the cause, where bit 47, which is undefined, is masked off. -/
theorem srr1Of_or_bitIf_47_and (m : Word) {info : Word} (b : Bool) (hinfo : info &&& infoMask &&& ~~~0x10000 = info) :
    srr1Of m (info ||| bitIf 47 b) &&& ~~~0x10000 = (m &&& ~~~0x783F0000) ||| info := by
  have hfree : bitIf 47 b &&& infoMask &&& ~~~0x10000 = 0 := by cases b <;> decide
  have hkept : m &&& ~~~infoMask &&& ~~~0x10000 = m &&& ~~~0x783F0000 := by rw [BitVec.and_assoc]; rfl
  rw [srr1Of, insertBits, BitVec.and_or_distrib_right, BitVec.and_or_distrib_right, BitVec.and_or_distrib_right, hinfo, hfree, hkept]
  exact congrArg _ BitVec.or_zero

theorem State.fetch_of_denied {s : State} (hir : ir s.msr = false) (hpath : s.path false s.cia = .denied) :
    s.fetch = .trap (s.instStorage (bitIf 36 true)) := by
  rw [State.fetch, hir, hpath]

/-- Settles O55: the paths of real addressing mode by HV, EA[0], LPES1 and the limit, then the fetch that is denied. -/
theorem realModeWithOffset : Obligations.RealModeWithOffset := by
  intro s ea hle a below
  refine ⟨fun hhv h0 => ⟨State.path_with_hrmor hle hhv h0, State.path_out_of_range hle hhv h0⟩,
    State.path_denied_of_lpes1 hle, fun hhv hlpes => ?_, fun hir hdenied => ?_⟩
  · have hpath := State.path_with_rmor (ea := ea) hle hhv hlpes
    exact ⟨fun hreached => hpath.trans (if_neg hreached),
      fun hbelow => ⟨_, hpath.trans (if_pos hbelow), and_realMask_toNat s.cfg _⟩⟩
  · exact ⟨_, State.fetch_of_denied hir hdenied, ⟨rfl, rfl⟩, s.ea32_cia, srr1Of_or_bitIf_47_and s.msr _ (by decide), rfl, rfl⟩

/-! ### A fetch in hypervisor real mode (R152, R154) -/

theorem State.fetch_of_real {s : State} {a : RealAddr} (hpath : s.path (ir s.msr) s.cia = .real a)
    (hpresent : absentHit s.cfg a 4 = false) : s.fetch = .ok (s.readWord a) s := by
  rw [State.fetch, hpath]
  simp only [State.fetchWord, hpresent]
  rfl

/-- Settles O5: the path is that of O54 or has the offset of HRMOR. -/
theorem fetchInHypervisorRealMode : Obligations.FetchInHypervisorRealMode := by
  intro s hir hhv hle hrange a hpresent
  refine State.fetch_of_real ?_ hpresent
  rw [hir]
  cases h0 : bit s.cia 0 with
  | true => exact (State.path_without_offset hle hhv h0).trans (congrArg Path.real (if_pos h0).symm)
  | false =>
    exact (State.path_with_hrmor hle hhv h0 (hrange h0)).trans
      (congrArg Path.real (if_neg (Bool.eq_false_iff.mp h0)).symm)

end Sys2Proof.Machine
end

section
/-! PROOFS. `mtmsrd` (O33): the MSR it writes, bit by bit, and where execution goes on. -/

namespace Sys2Proof.Machine

/-! ### The MSR that it writes (R343) -/

theorem bit_forceBits (m x : Word) {i : Nat} (hi : i < 64) : bit (forceBits m x) i =
    if i = 48 ∨ i = 58 ∨ i = 59 then bit x i || bit x 49 else bit m i := by
  rw [forceBits, bit_setBit _ _ (by decide) hi, bit_setBit _ _ (by decide) hi, bit_setBit _ _ (by decide) hi]
  by_cases h59 : i = 59
  · simp [h59]
  · by_cases h58 : i = 58
    · simp [h58]
    · by_cases h48 : i = 48
      · simp [h48]
      · simp [h59, h58, h48, Ne.symm h59, Ne.symm h58, Ne.symm h48]

/-- The bits that `mtmsrd` with L=0 copies from the register. -/
theorem bit_mtmsrd_mask {i : Nat} (hi : i < 64) (h0 : i ≠ 0) (hkept : i ≠ 3 ∧ i ≠ 51) (hforced : ¬(i = 48 ∨ i = 58 ∨ i = 59)) :
    bit (mask 1 2 ||| mask 4 47 ||| mask 49 50 ||| mask 52 57 ||| mask 60 63) i = true := by
  obtain ⟨h3, h51⟩ := hkept
  revert h0 h3 h51 hforced
  interval_cases i <;> decide

theorem bit_mtmsrdMsr (c : Params) (old r : Word) {i : Nat} (hi : i < 64) : bit (mtmsrdMsr c old r) i = (bit (msrMask c) i &&
    (if i = 0 then bit r 0 || bit r 1
     else if i = 3 ∨ i = 51 then bit old i
     else if i = 48 ∨ i = 58 ∨ i = 59 then bit r i || bit r 49
     else bit r i)) := by
  rw [mtmsrdMsr, bit_and, Bool.and_comm, bit_forceBits _ _ hi, bit_setBit _ _ (by decide) hi, bit_insertBits _ _ _ hi]
  congr 1
  by_cases h0 : i = 0
  · simp [h0]
  · rw [if_neg (Ne.symm h0), if_neg h0]
    by_cases hkept : i = 3 ∨ i = 51
    · have hmask : bit (mask 1 2 ||| mask 4 47 ||| mask 49 50 ||| mask 52 57 ||| mask 60 63) i = false := by
        obtain rfl | rfl := hkept <;> decide
      rw [if_pos hkept, hmask, if_neg (by omega)]
      rfl
    · rw [if_neg hkept]
      by_cases hforced : i = 48 ∨ i = 58 ∨ i = 59
      · rw [if_pos hforced, if_pos hforced]
      · rw [if_neg hforced, if_neg hforced, if_pos (bit_mtmsrd_mask hi h0 (not_or.mp hkept) hforced)]

theorem bit_mtmsrL1 (old r : Word) {i : Nat} (hi : i < 64) :
    bit (mtmsrL1 old r) i = if i = 48 ∨ i = 62 then bit r i else bit old i := by
  rw [mtmsrL1, bit_insertBits _ _ _ hi, bit_or, bit_mask_self (by decide) hi, bit_mask_self (by decide) hi]
  simp only [Bool.or_eq_true, decide_eq_true_eq, @eq_comm _ 48 i, @eq_comm _ 62 i]

/-! ### Where execution goes on (R143, R142) -/

section Move

variable {s : State} {m : Word}

theorem State.moveMsrd_at_wrap (hsf : sf m ≠ sf s.msr) (hcia : s.cia = 0xFFFFFFFC) : s.moveMsrd m =
    require s.cfg.sfWrapFree .implicitBranch
      (.next ({ s with msr := m, nia := Config.freeWord s.run.draws &&& ~~~(3#64) }.drawn 1)) := by
  have hwrap : ((sf m != sf s.msr) && s.atWrap) = true := by simp [State.atWrap, hsf, hcia]
  exact if_pos hwrap

theorem State.moveMsrd_next (hwrap : sf m ≠ sf s.msr → s.cia ≠ 0xFFFFFFFC) (hmode : sf m = false → s.cia.toNat < 2 ^ 32)
    (hbranch : s.noImplicitBranch (s.withMsr m)) : s.moveMsrd m = .next (s.withMsr m) := by
  have hno_wrap : ((sf m != sf s.msr) && s.atWrap) = false := by
    rw [Bool.and_eq_false_iff, bne_eq_false_iff_eq, State.atWrap, beq_eq_false_iff_ne]
    exact or_iff_not_imp_left.mpr hwrap
  have hno_leave : (sf s.msr && !sf m && (0x100000000#64).ule s.cia) = false := by
    cases hsf : sf m
    · have hlow := hmode hsf
      simp [BitVec.ule]
      omega
    · simp
  rw [State.moveMsrd, hno_wrap, hno_leave]
  exact State.alter_next.mpr ⟨implicitBranch_eq_false.mpr hbranch, rfl⟩

end Move

theorem exec_mtmsrd {s : State} (rs : Reg) (hp : s.problem = false) :
    exec (.mtmsrd rs false) s = s.moveMsrd (mtmsrdMsr s.cfg s.msr (s.readGpr rs))
      ∧ exec (.mtmsrd rs true) s = .next (s.withMsr (mtmsrL1 s.msr (s.readGpr rs))) :=
  ⟨State.privileged_of_not_problem _ hp, State.privileged_of_not_problem _ hp⟩

/-- Settles O33: the MSR is that of `bit_mtmsrdMsr` or `bit_mtmsrL1`, and at 2^32 - 4 a change of SF is told apart. -/
theorem mtmsrdMovesMsr : Obligations.MtmsrdMovesMsr := by
  intro rs s hp
  obtain ⟨hexec, hexec1⟩ := exec_mtmsrd rs hp
  rw [hexec, hexec1]
  refine ⟨⟨_, fun i hi => bit_mtmsrdMsr s.cfg s.msr (s.readGpr rs) hi, fun hsf hcia => ?_, State.moveMsrd_next⟩,
    _, rfl, fun i hi => bit_mtmsrL1 _ _ hi⟩
  rw [State.moveMsrd_at_wrap hsf hcia]
  exact ⟨fun hfree => by rw [hfree]; rfl, fun hfree => ⟨_, require_of_true hfree⟩⟩

end Sys2Proof.Machine
end

section
/-! PROOFS. What a data access answers, case by case, and the causes of a Data Storage interrupt (O27). -/

namespace Sys2Proof.Machine

/-! ### The access to one page (R464 to R470, R196) -/

section Probe

variable {s : State} {k : AccessKind} {x : Part}

theorem State.probe_denied :
    s.probe k .denied x = .trap ((s.drawn 3).violate (s.realViolation k x none) k.store x.dar) := rfl

section Real

variable {a : RealAddr}

theorem State.probe_real_violation (h : (s.realViolation k x (some a)).any = true) :
    s.probe k (.real a) x = .trap ((s.drawn 3).violate (s.realViolation k x (some a)) k.store x.dar) := if_pos h

theorem State.probe_real_absent (h : (s.realViolation k x (some a)).any = false) (ha : absentHit s.cfg a x.size = true) :
    s.probe k (.real a) x = .trap ((s.drawn 3).machineCheck true) :=
  (if_neg (Bool.eq_false_iff.mp h)).trans (if_pos ha)

end Real

section Mapped

variable {b : SlbEntry} {e : TlbEntry} {cached : Bool} (hwi : (e.w && e.i) = false)
include hwi

theorem State.probe_mapped_violation (h : (s.mappedViolation k x b e).any = true) : s.probe k (.mapped b e cached) x =
    .trap (((s.drawn 3).keep e cached).violate (s.mappedViolation k x b e) k.store x.dar) :=
  (if_neg (Bool.eq_false_iff.mp hwi)).trans (if_pos h)

variable (h : (s.mappedViolation k x b e).any = false)
include h

theorem State.probe_mapped_absent (ha : absentHit s.cfg (e.realAddress s.cfg x.ea) x.size = true) :
    s.probe k (.mapped b e cached) x = .trap (((s.drawn 3).keep e cached).machineCheck true) := by
  refine ((if_neg (Bool.eq_false_iff.mp hwi)).trans (if_neg (Bool.eq_false_iff.mp h))).trans (if_pos ?_)
  exact Bool.or_eq_true_iff.mpr (.inl ha)

theorem State.probe_mapped_ok (ha : absentHit s.cfg (e.realAddress s.cfg x.ea) x.size = false)
    (hr : k.recording = .nothing ∨ recordAbsent s.cfg e (k.recording == .change) = false) : s.probe k (.mapped b e cached) x =
      .ok ⟨e.realAddress s.cfg x.ea, x.size, e.w, e.i, some (e, cached)⟩ (s.drawn 3) := by
  refine ((if_neg (Bool.eq_false_iff.mp hwi)).trans (if_neg (Bool.eq_false_iff.mp h))).trans (if_neg ?_)
  obtain hr | hr := hr <;> simp [ha, hr]

end Mapped

end Probe

theorem State.dataAccess_of_probe_trap {s t : State} {k : AccessKind} {ea : Word} {n : Nat} {p : Path}
    (hpath : s.path (dr s.msr) ea = p) (h : s.probe k p (.whole ea n) = .trap t) : s.dataAccess k ea n = .trap t := by
  rw [State.dataAccess, hpath, h]
  rfl

theorem State.dataAccess_of_probe_ok {s t : State} {k : AccessKind} {ea : Word} {n : Nat} {p : Path} {x : Target}
    (hpath : s.path (dr s.msr) ea = p) (h : s.probe k p (.whole ea n) = .ok x t) :
    s.dataAccess k ea n = .ok x.ra (t.commit k x) := by
  rw [State.dataAccess, hpath, h]
  rfl

/-- The TLB may have taken the entry that the search of a denied access has found (R225). -/
theorem State.keep_tlb_cases (s : State) (e : TlbEntry) (cached : Bool) :
    (s.keep e cached).tlb = s.tlb ∨ (cached = false ∧ (s.keep e cached).tlb = e :: s.tlb) := by
  cases cached
  · simp only [State.keep, State.filledTlb, Bool.false_eq_true, if_false, true_and]
    split
    · exact .inr rfl
    · exact .inl rfl
  · exact .inl rfl

/-! ### The interrupt of a violation (R465, R466) -/

/-- A Data Storage interrupt whose DSISR names the causes of a violation, and whose DAR is the operand's address if the violation
is not a Breakpoint match alone. -/
structure ViolationStop (s t : State) (v : Violation) (store : Bool) (ea : Word) : Prop where
  stopped : StoppedAt s t .dataStorage
  dsisr : ∃ free, t.spr.dsisr = v.dsisr store ||| hbitIf 15 free
  dar : (v.protect || v.wi || v.dac) = true → t.spr.dar = ea

theorem State.violate_stop (s : State) (v : Violation) (store : Bool) (ea : Word) :
    ViolationStop s (s.violate v store ea) v store ea := by
  rw [State.violate]
  split
  next hnamed => exact ⟨s.dataStorage_stopped _ _, ⟨_, rfl⟩, fun _ => rfl⟩
  next hmatch => exact ⟨(State.dataStorage_stopped _ _ _).of_same ⟨_, _, rfl⟩, ⟨_, rfl⟩, fun h => absurd h hmatch⟩

section ViolationStop

variable {s u t : State} {v : Violation} {store : Bool} {ea : Word}

/-- Drawing undefined values and keeping an entry in the TLB before the interrupt change none of this. -/
theorem ViolationStop.of_same (h : ViolationStop u t v store ea) (hu : ∃ tlb run, u = { s with tlb := tlb, run := run }) :
    ViolationStop s t v store ea :=
  ⟨h.stopped.of_same hu, h.dsisr, h.dar⟩

theorem ViolationStop.hbit_dsisr (h : ViolationStop s t v store ea) {j : Nat} (hj : j < 15) : hbit t.spr.dsisr j =
    ((v.protect && decide (4 = j)) || (v.wi && decide (5 = j)) || (store && decide (6 = j))
      || ((v.dac || v.dabr) && decide (9 = j))) := by
  obtain ⟨free, hdsisr⟩ := h.dsisr
  have hfree : hbit (hbitIf 15 free) j = false := by rw [hbit_hbitIf _ (by decide) (by omega)]; simp; omega
  have hcause (b : Bool) (i : Nat) (hi : i < 32) := hbit_hbitIf b hi (show j < 32 by omega)
  rw [hdsisr, Violation.dsisr]
  simp only [hbit_or, hfree, hcause _ 4 (by decide), hcause _ 5 (by decide), hcause _ 6 (by decide), hcause _ 9 (by decide),
    Bool.or_false]

theorem hbitIf_and_not {i : Nat} {m : Half} (b : Bool) (h : hmask i &&& ~~~m = 0) : hbitIf i b &&& ~~~m = 0 := by
  cases b
  · exact BitVec.zero_and
  · exact h

/-- No bit of the DSISR is set but 4, 5, 6, 9 and the undefined bit 15. -/
theorem ViolationStop.dsisr_and (h : ViolationStop s t v store ea) : t.spr.dsisr &&& ~~~0x0E410000 = 0 := by
  obtain ⟨free, hdsisr⟩ := h.dsisr
  rw [hdsisr, Violation.dsisr]
  exact or_and_not (or_and_not (or_and_not (or_and_not (hbitIf_and_not _ (by decide)) (hbitIf_and_not _ (by decide)))
    (hbitIf_and_not _ (by decide))) (hbitIf_and_not _ (by decide))) (hbitIf_and_not _ (by decide))

end ViolationStop

/-! ### The Data Address Breakpoint (R244) -/

theorem field_eq_iff_ushiftRight (x y : Word) : field x 0 61 = field y 0 61 ↔ x >>> 3 = y >>> 3 := by
  have hfield (z : Word) : (field z 0 61).toNat = (z >>> 3).toNat := by
    have hlt := z.isLt
    rw [field, BitVec.extractLsb'_toNat, BitVec.toNat_ushiftRight, Nat.shiftRight_eq_div_pow, Nat.mod_eq_of_lt (by omega)]
  rw [← BitVec.toNat_inj, ← BitVec.toNat_inj, hfield, hfield]

/-- The conditions of a Breakpoint match in the bits of the registers. -/
theorem State.dabrConditions_iff (s : State) (store : Bool) (ea : Word) (n : Nat) : s.dabrConditions store ea n = true ↔
    (dr s.msr = bit s.spr.dabr 61 ∨ bit s.spr.dabrx 60 = true)
      ∧ ((hv s.msr = true ∧ pr s.msr = false ∧ bit s.spr.dabrx 61 = true)
        ∨ (hv s.msr = false ∧ pr s.msr = false ∧ bit s.spr.dabrx 62 = true) ∨ (pr s.msr = true ∧ bit s.spr.dabrx 63 = true))
      ∧ (if store then bit s.spr.dabr 62 else bit s.spr.dabr 63) = true
      ∧ ∃ i, i < n ∧ eaAfter s.msr ea i >>> 3 = s.spr.dabr >>> 3 := by
  simp only [State.dabrConditions, State.hypervisor, State.supervisor, State.problem, Bool.and_eq_true, Bool.or_eq_true,
    Bool.not_eq_true', beq_iff_eq, List.any_eq_true, List.mem_range, field_eq_iff_ushiftRight, and_assoc, or_assoc]

theorem State.dabrMatch_of_supported {s : State} {k : AccessKind} (hk : k.dabr = .applies) (h5 : field s.spr.dabrx 61 3 ≠ 5)
    (h6 : field s.spr.dabrx 61 3 ≠ 6) (ea : Word) (n : Nat) : s.dabrMatch k ea n = s.dabrConditions k.store ea n := by
  have hsupported : privmUnsupported s.spr.dabrx = false :=
    Bool.or_eq_false_iff.mpr ⟨beq_eq_false_iff_ne.mpr h5, beq_eq_false_iff_ne.mpr h6⟩
  rw [State.dabrMatch, hsupported, hk]
  rfl

/-! ### Real addressing mode: Caching Inhibited storage (R158, R160) -/

theorem allNonguarded_iff (c : Params) (a : RealAddr) (n : Nat) : allNonguarded c a n = true ↔ ∀ i, i < n →
    c.hasRmsc = true ∧ ∃ x ∈ c.rmNonguarded, x.base ≤ a.toNat + i ∧ a.toNat + i < x.base + x.size := by
  simp only [allNonguarded, nonguarded, List.all_eq_true, List.mem_range, Bool.and_eq_true, List.any_eq_true, decide_eq_true_eq]

section RealWi

variable {s : State} {k : AccessKind} {x : Part} {a : RealAddr}

theorem State.realViolation_dac (ra : Option RealAddr) : (s.realViolation k x ra).dac = false := rfl

/-- What the W or I cause says in real addressing mode. -/
theorem State.realViolation_wi_true (h : (s.realViolation k x (some a)).wi = true) :
    k.noWI = true ∧ (k.rmscOnly = true → s.cfg.hasRmsc = true) ∧ hv s.msr = true ∧ rmi s.spr.lpcr = true := by
  simp only [State.realViolation, State.realInhibited, Bool.and_eq_true, Bool.or_eq_true, Bool.not_eq_true'] at h
  obtain ⟨⟨hno, hrmsc⟩, ⟨hhv, hrmi⟩, -⟩ := h
  exact ⟨hno, fun hk => hrmsc.resolve_right (by simp [hk]), hhv, hrmi⟩

/-- Where the cause does not arise although the storage may be Caching Inhibited, all of the operand is non-Guarded. -/
theorem State.allNonguarded_of_realViolation (h : (s.realViolation k x (some a)).wi = false) (hno : k.noWI = true)
    (hrmsc : k.rmscOnly = true → s.cfg.hasRmsc = true) (hhv : hv s.msr = true) (hrmi : rmi s.spr.lpcr = true) :
    allNonguarded s.cfg a x.size = true := by
  have happlies : (s.cfg.hasRmsc || !k.rmscOnly) = true := by
    cases hk : k.rmscOnly
    · simp
    · simp [hrmsc hk]
  simp only [State.realViolation, State.realInhibited, hno, happlies, hhv, hrmi, Bool.true_and, Bool.or_eq_false_iff,
    Bool.not_eq_false'] at h
  exact h.1

end RealWi

/-! ### The access that is stopped -/

/-- A translated access that a violation stops: no storage is accessed, and the search's result may be kept in the TLB. -/
theorem State.dataAccess_mapped_violation {s : State} {k : AccessKind} {ea : Word} {n : Nat} {b : SlbEntry} {e : TlbEntry}
    {cached : Bool} {v : Violation} (hpath : s.path (dr s.msr) ea = .mapped b e cached) (hwi : (e.w && e.i) = false)
    (hviolation : s.mappedViolation k (.whole ea n) b e = v) (hany : v.any = true) :
    ∃ t, s.dataAccess k ea n = .trap t ∧ ViolationStop s t v k.store ea
      ∧ (t.tlb = s.tlb ∨ (cached = false ∧ t.tlb = e :: s.tlb)) := by
  subst hviolation
  refine ⟨_, State.dataAccess_of_probe_trap hpath (State.probe_mapped_violation hwi hany),
    (State.violate_stop _ _ _ _).of_same ⟨_, _, rfl⟩, ?_⟩
  rw [State.violate_tlb]
  exact (s.drawn 3).keep_tlb_cases e cached

theorem State.dataAccess_denied {s : State} {k : AccessKind} {ea : Word} (n : Nat) (hpath : s.path (dr s.msr) ea = .denied) :
    ∃ t, s.dataAccess k ea n = .trap t ∧ ViolationStop s t (s.realViolation k (.whole ea n) none) k.store ea ∧ t.tlb = s.tlb :=
  ⟨_, State.dataAccess_of_probe_trap hpath State.probe_denied, (State.violate_stop _ _ _ _).of_same ⟨_, _, rfl⟩,
    State.violate_tlb _ _ _ _⟩

theorem State.dataAccess_real_violation {s : State} {k : AccessKind} {ea : Word} {n : Nat} {a : RealAddr}
    (hpath : s.path (dr s.msr) ea = .real a) (hany : (s.realViolation k (.whole ea n) (some a)).any = true) :
    ∃ t, s.dataAccess k ea n = .trap t ∧ ViolationStop s t (s.realViolation k (.whole ea n) (some a)) k.store ea
      ∧ t.tlb = s.tlb :=
  ⟨_, State.dataAccess_of_probe_trap hpath (State.probe_real_violation hany), (State.violate_stop _ _ _ _).of_same ⟨_, _, rfl⟩,
    State.violate_tlb _ _ _ _⟩

/-- Settles O27: the violation of the access names the causes, by address translation, by Figure 31 and in real addressing
mode; a Breakpoint match is that of its conditions. -/
theorem dataStorageCauses : Obligations.DataStorageCauses := by
  unfold Obligations.DataStorageCauses
  intro stopped
  have stopped_of {s t : State} {k : AccessKind} {v : Violation} {ea : Word} (h : ViolationStop s t v k.store ea) :
      stopped s t k v.protect v.wi (v.dac || v.dabr) ea (v.protect || v.wi || v.dac) :=
    ⟨h.stopped.entered, h.stopped.srr0, by simpa using h.hbit_dsisr (j := 4) (by decide),
      by simpa using h.hbit_dsisr (j := 5) (by decide), by simpa using h.hbit_dsisr (j := 6) (by decide),
      by simpa using h.hbit_dsisr (j := 9) (by decide), h.dsisr_and, h.dar, h.stopped.gpr, h.stopped.mem⟩
  refine ⟨?_, ?_, ?_, ?_⟩
  · intro s k ea n b e cached hpath hwi hdac protect wi dac hany
    have hviolation : s.mappedViolation k (.whole ea n) b e = ⟨protect, wi, dac, s.dabrMatch k ea n⟩ := by
      have hprotect : (if k.store then !mayWrite (key s.msr b) e.pp else !mayRead (key s.msr b) e.pp) = protect :=
        (apply_ite not _ _ _).symm
      rw [State.mappedViolation, hprotect, State.dacMatch, hdac]
      rfl
    obtain ⟨t, htrap, hstop, htlb⟩ := State.dataAccess_mapped_violation hpath hwi hviolation hany
    exact ⟨t, htrap, stopped_of hstop, htlb⟩
  · intro s k ea n hdr hpath
    rw [← hdr] at hpath
    obtain ⟨t, htrap, hstop, htlb⟩ := State.dataAccess_denied (k := k) n hpath
    have hwi : (s.realViolation k (.whole ea n) none).wi = false := Bool.and_false _
    exact ⟨t, htrap, hwi ▸ stopped_of hstop, htlb⟩
  · intro s k ea n a hdr hpath
    rw [← hdr] at hpath
    refine ⟨(s.realViolation k (.whole ea n) (some a)).wi, State.realViolation_wi_true, fun hno hrmsc hhv hrmi hwi => ?_,
      fun hany => ?_⟩
    · exact (allNonguarded_iff s.cfg a n).mp (State.allNonguarded_of_realViolation hwi hno hrmsc hhv hrmi)
    · have hviolates : (s.realViolation k (.whole ea n) (some a)).any = true := by
        rw [Violation.any, State.realViolation_dac, Bool.or_false]
        exact hany
      obtain ⟨t, htrap, hstop, htlb⟩ := State.dataAccess_real_violation hpath hviolates
      have hnamed := stopped_of hstop
      rw [State.realViolation_dac, Bool.or_false, Bool.false_or] at hnamed
      exact ⟨t, htrap, hnamed, htlb⟩
  · intro s k ea n hk h5 h6
    rw [State.dabrMatch_of_supported hk h5 h6]
    exact s.dabrConditions_iff k.store ea n

end Sys2Proof.Machine
end

section
/-! PROOFS. Machine Check (O20): the exception that is pending, and storage that does not exist. -/

namespace Sys2Proof.Machine

/-! ### The interrupt, or Checkstop (R462) -/

/-- A Machine Check at the instruction at CIA: the interrupt with ME=1, Checkstop with ME=0; registers and storage stay. -/
structure MachineChecked (s t : State) : Prop where
  gpr : t.gpr = s.gpr
  mem : t.mem = s.mem
  interrupt : me s.msr = true → t.enteredFrom s .machineCheck ∧ t.spr.srr0 = s.cia ∧ t.checkstop = s.checkstop
  checkstop : me s.msr = false → t.checkstop = true ∧ t.msr = s.msr

theorem State.machineCheck_of_me {s : State} (hme : me s.msr = true) (recoverable : Bool) :
    (s.machineCheck recoverable).enteredFrom s .machineCheck ∧ (s.machineCheck recoverable).spr.srr0 = s.cia
      ∧ bit (s.machineCheck recoverable).spr.srr1 62 = (recoverable && ri s.msr)
      ∧ (s.machineCheck recoverable).checkstop = s.checkstop := by
  rw [State.machineCheck, if_pos hme]
  exact ⟨⟨rfl, rfl⟩, s.ea32_cia, (bit_setBit _ _ (by decide) (by decide)).trans (if_pos rfl), rfl⟩

theorem State.machineCheck_of_not_me {s : State} (hme : me s.msr = false) (recoverable : Bool) :
    s.machineCheck recoverable = s.enterCheckstop := if_neg (Bool.eq_false_iff.mp hme)

theorem State.machineCheck_checked (s : State) (recoverable : Bool) : MachineChecked s (s.machineCheck recoverable) where
  gpr := (s.machineCheck_frame recoverable).gpr
  mem := (s.machineCheck_frame recoverable).mem
  interrupt hme := by
    obtain ⟨hentered, hsrr0, -, hcheckstop⟩ := State.machineCheck_of_me hme recoverable
    exact ⟨hentered, hsrr0, hcheckstop⟩
  checkstop hme := by
    rw [State.machineCheck_of_not_me hme]
    exact ⟨rfl, rfl⟩

/-- Drawing undefined values and keeping an entry in the TLB before it change none of this. -/
theorem MachineChecked.of_same {s u t : State} (h : MachineChecked u t) (hu : ∃ tlb run, u = { s with tlb := tlb, run := run }) :
    MachineChecked s t := by
  obtain ⟨tlb, run, rfl⟩ := hu
  exact ⟨h.gpr, h.mem, h.interrupt, h.checkstop⟩

theorem newMsr_machineCheck (c : Params) (lpcr old : Word) : newMsr c lpcr .machineCheck old = 0x9000000000000000 := by
  have hfixed : newMsr c lpcr .machineCheck old =
      bitIf 0 true ||| bitIf 3 true ||| bitIf 51 false ||| bitIf 62 false ||| bitIf 63 (c.hasLe && false && ile lpcr) := rfl
  rw [hfixed, Bool.and_false, Bool.false_and]
  decide

/-! ### The exception that is pending (R501) -/

/-- Before a step in which the environment does nothing. -/
theorem State.present_of_quiet {s : State} (hin : s.run.inputs = []) :
    ∃ bookI tlb run, s.present = { s with bookI := bookI, tlb := tlb, run := run } := by
  have hinput : s.input = .quiet := by simp [State.input, hin]
  obtain ⟨bookI, tlb, run, he, -⟩ := s.present_eq
  refine ⟨bookI, tlb, run, ?_⟩
  rw [he, hinput]
  simp [Pending.present, Input.quiet, Memory.writeAll]

theorem State.boundary_of_machineCheck {s : State} {recoverable : Bool} (hreset : s.pend.sysReset = none)
    (hrunning : s.checkstop = false) (hmc : s.pend.machineCheck = some recoverable) (i : Input) :
    s.boundary i = .next ((s.takeMachineCheck recoverable).elapse s i none) := by
  rw [State.boundary, hreset, hrunning, hmc]
  rfl

theorem step_of_machineCheck {s : State} {recoverable : Bool} (hin : s.run.inputs = []) (hreset : s.pend.sysReset = none)
    (hrunning : s.checkstop = false) (hmc : s.pend.machineCheck = some recoverable) :
    ∃ bookI tlb run, step s = .next ((State.machineCheck { s with
      pend := { s.pend with machineCheck := none }, bookI := bookI, tlb := tlb, run := run } recoverable).elapse
        s.present s.input none) := by
  obtain ⟨bookI, tlb, run, hpresent⟩ := State.present_of_quiet hin
  refine ⟨bookI, tlb, run, ?_⟩
  rw [step, State.boundary_of_machineCheck (recoverable := recoverable) (by rw [hpresent]; exact hreset)
    (by rw [hpresent]; exact hrunning) (by rw [hpresent]; exact hmc), State.takeMachineCheck, hpresent]

/-- What the Machine Check leaves is what the step leaves, but for time and the Performance Monitor. -/
theorem machineCheckStep_pending {s : State} {recoverable : Bool} (hin : s.run.inputs = []) (hreset : s.pend.sysReset = none)
    (hrunning : s.checkstop = false) (hmc : s.pend.machineCheck = some recoverable) :
    ∃ t, step s = .next t ∧ t.gpr = s.gpr ∧ t.mem = s.mem ∧ t.pend.machineCheck = none
      ∧ (me s.msr = true → t.nia = 0x200 ∧ t.msr = 0x9000000000000000 ∧ t.spr.srr0 = s.cia
          ∧ bit t.spr.srr1 62 = (recoverable && ri s.msr) ∧ t.checkstop = false)
      ∧ (me s.msr = false → t.checkstop = true ∧ t.msr = s.msr) := by
  obtain ⟨bookI, tlb, run, hstep⟩ := step_of_machineCheck hin hreset hrunning hmc
  refine ⟨_, hstep, ?_⟩
  generalize hu : ({ s with pend := { s.pend with machineCheck := none }, bookI := bookI, tlb := tlb, run := run } : State) = u
  obtain ⟨time, pm, run', helapse, -⟩ := (u.machineCheck recoverable).elapse_eq s.present s.input none
  have hframe := u.machineCheck_frame recoverable
  have hchecked := u.machineCheck_checked recoverable
  rw [helapse]
  subst hu
  refine ⟨hframe.gpr, hframe.mem, congrArg Pending.machineCheck hframe.pend, fun hme => ?_, hchecked.checkstop⟩
  obtain ⟨⟨hnia, hmsr⟩, hsrr0, hsrr1, hcheckstop⟩ := State.machineCheck_of_me (s := { s with
    pend := { s.pend with machineCheck := none }, bookI := bookI, tlb := tlb, run := run }) hme recoverable
  exact ⟨hnia, hmsr.trans (newMsr_machineCheck _ _ _), hsrr0, hsrr1, hcheckstop.trans hrunning⟩

/-! ### Storage that does not exist (R196, D30) -/

theorem State.fetch_of_absent {s : State} {a : RealAddr} (hpath : s.path (ir s.msr) s.cia = .real a)
    (habsent : absentHit s.cfg a 4 = true) : s.fetch = .trap (s.machineCheck true) := by
  rw [State.fetch, hpath]
  exact if_pos habsent

theorem State.dataAccess_real_absent {s : State} {k : AccessKind} {ea : Word} {n : Nat} {a : RealAddr}
    (hpath : s.path (dr s.msr) ea = .real a) (hno : (s.realViolation k (.whole ea n) (some a)).any = false)
    (habsent : absentHit s.cfg a n = true) : ∃ t, s.dataAccess k ea n = .trap t ∧ MachineChecked s t :=
  ⟨_, State.dataAccess_of_probe_trap hpath (State.probe_real_absent hno habsent),
    (State.machineCheck_checked _ _).of_same ⟨_, _, rfl⟩⟩

theorem State.dataAccess_mapped_absent {s : State} {k : AccessKind} {ea : Word} {n : Nat} {b : SlbEntry} {e : TlbEntry}
    {cached : Bool} (hpath : s.path (dr s.msr) ea = .mapped b e cached) (hwi : (e.w && e.i) = false)
    (hno : (s.mappedViolation k (.whole ea n) b e).any = false) (habsent : absentHit s.cfg (e.realAddress s.cfg ea) n = true) :
    ∃ t, s.dataAccess k ea n = .trap t ∧ MachineChecked s t :=
  ⟨_, State.dataAccess_of_probe_trap hpath (State.probe_mapped_absent hwi hno habsent),
    (State.machineCheck_checked _ _).of_same ⟨_, _, rfl⟩⟩

/-! ### The operand of `lq` and `stq` -/

/-- With DABRX[PRIVM] = 0 no Breakpoint match occurs (R57, R244). -/
theorem State.dabrMatch_of_breakpointsOff {s : State} (hoff : s.breakpointsOff) (k : AccessKind) (ea : Word) (n : Nat) :
    s.dabrMatch k ea n = false := by
  have hfield : field s.spr.dabrx 61 3 = 0 := hoff
  have hbit (i : Nat) (hi : i < 3) : bit s.spr.dabrx (63 - i) = false := by
    have hzero := congrArg (·.getLsbD i) hfield
    rw [bit, show 63 - (63 - i) = i by omega]
    simpa [field, hi] using hzero
  have hsupported : privmUnsupported s.spr.dabrx = false := by simp [privmUnsupported, hfield]
  have hconditions : s.dabrConditions k.store ea n = false := by
    simp [State.dabrConditions, hbit 0 (by decide), hbit 1 (by decide), hbit 2 (by decide)]
  rw [State.dabrMatch, hsupported, hconditions]
  cases k.dabr <;> rfl

section Quad

variable {s : State} {store : Bool} {ea : Word} {n : Nat} (hoff : s.breakpointsOff)
include hoff

/-- In real addressing mode nothing stops it, where Real Mode Storage Control does not make R158 a cause (R412). -/
theorem State.realViolation_quad_any (a : RealAddr) (hrmsc : (s.cfg.hasRmsc && hv s.msr && rmi s.spr.lpcr) = false) :
    (s.realViolation (.quad store) (.whole ea n) (some a)).any = false := by
  have hwi : (s.realViolation (.quad store) (.whole ea n) (some a)).wi = false := by
    refine Bool.eq_false_iff.mpr fun h => ?_
    obtain ⟨-, hneeds, hhv, hrmi⟩ := State.realViolation_wi_true h
    simp [hneeds rfl, hhv, hrmi] at hrmsc
  rw [Violation.any, hwi, State.realViolation_dac, Bool.or_false, Bool.or_false]
  exact State.dabrMatch_of_breakpointsOff hoff _ _ _

/-- Through translation nothing stops it in storage that is neither W nor I nor watched, and that Figure 30 lets it access. -/
theorem State.mappedViolation_quad_any {b : SlbEntry} {e : TlbEntry} (hp : s.problem = false) (hac : e.ac = false)
    (hw : e.w = false) (hi : e.i = false) (hmay : (if store then mayWrite b.ks e.pp else mayRead b.ks e.pp) = true) :
    (s.mappedViolation (.quad store) (.whole ea n) b e).any = false := by
  have hkey : key s.msr b = b.ks := if_neg (Bool.eq_false_iff.mp hp)
  have hdac : s.dacMatch (.quad store) e = false := by
    rw [State.dacMatch, dacConditions, hac]
    cases store <;> rfl
  have hprotect : (if (AccessKind.quad store).store then !mayWrite (key s.msr b) e.pp else !mayRead (key s.msr b) e.pp) = false := by
    rw [hkey]
    cases store
    · exact congrArg not hmay
    · exact congrArg not hmay
  rw [Violation.any, State.mappedViolation, hprotect, hdac, hw, hi, State.dabrMatch_of_breakpointsOff hoff]
  rfl

end Quad

section QuadTests

variable {r ra : Reg} {s : State} (hq : s.cfg.hasLqstq = true) (hp : s.problem = false)
  (hover : (dr s.msr && s.run.overflow) = false) (heven : r.getLsbD 0 = false)
include hq hp hover heven

/-- Where every test passes, `lq` is its access. -/
theorem exec_lq_access {dq : BitVec 12} (hne : r ≠ ra) (hea : lqEa s dq ra &&& 15 = 0) : exec (.lq r dq ra) s =
    (s.dataAccess (.quad false) (lqEa s dq ra) 16).andThen fun a t => .next (t.loadQuad r a (lqEa s dq ra)) := by
  rw [exec_lq, State.quadTests_of_aligned hq hp (lqFormOk_iff.mpr ⟨heven, hne⟩) hea, State.overflowTest, hover]
  rfl

theorem exec_stq_access {ds : BitVec 14} (hea : stqEa s ds ra &&& 15 = 0) : exec (.stq r ds ra) s =
    (s.dataAccess (.quad true) (stqEa s ds ra) 16).andThen fun a t => s.alter (t.storeQuad r a (stqEa s ds ra)) := by
  rw [exec_stq, State.quadTests_of_aligned hq hp (stqFormOk_iff.mpr heven) hea, State.overflowTest, hover]
  rfl

end QuadTests

/-- Settles O20: what is pending is taken before everything but a reset; a fetch and an operand in absent storage end in the same
Machine Check. -/
theorem machineCheckStep : Obligations.MachineCheckStep := by
  unfold Obligations.MachineCheckStep
  intro checked
  have checked_of {s t : State} (h : MachineChecked s t) : checked s t := ⟨h.gpr, h.mem, h.interrupt, h.checkstop⟩
  refine ⟨fun s recoverable => machineCheckStep_pending, fun s a hpath habsent => ?_, ?_⟩
  · exact ⟨_, State.fetch_of_absent hpath habsent, checked_of (s.machineCheck_checked true)⟩
  · intro r ra dq ds s a hq hp hoff hover heven habsent lies
    have htrap (store : Bool) (ea : Word) (hlies : lies store ea) :
        ∃ t, s.dataAccess (.quad store) ea 16 = .trap t ∧ checked s t := by
      obtain ⟨hpath, hrmsc⟩ | ⟨b, e, cached, hpath, rfl, hac, hw, hi, hmay⟩ := hlies
      · obtain ⟨t, ht, hchecked⟩ :=
          State.dataAccess_real_absent hpath (State.realViolation_quad_any (store := store) hoff a hrmsc) habsent
        exact ⟨t, ht, checked_of hchecked⟩
      · obtain ⟨t, ht, hchecked⟩ := State.dataAccess_mapped_absent hpath (Bool.and_eq_false_iff.mpr (.inl hw))
          (State.mappedViolation_quad_any (store := store) hoff hp hac hw hi hmay) habsent
        exact ⟨t, ht, checked_of hchecked⟩
    refine ⟨fun hne hea hlies => ?_, fun hea hlies => ?_⟩
    · obtain ⟨t, ht, hchecked⟩ := htrap false _ hlies
      exact ⟨t, by rw [exec_lq_access hq hp hover heven hne hea, ht]; rfl, hchecked⟩
    · obtain ⟨t, ht, hchecked⟩ := htrap true _ hlies
      exact ⟨t, by rw [exec_stq_access hq hp hover heven hea, ht]; rfl, hchecked⟩

end Sys2Proof.Machine
end

section
/-! PROOFS. `lq` and `stq` through the SLB and the Page Table or TLB (O50). -/

namespace Sys2Proof.Machine

/-! ### The registers and the storage of a quadword (R410, R411) -/

theorem ne_pairOf {r : Reg} (heven : r.getLsbD 0 = false) : r ≠ pairOf r := by
  intro h
  have hodd : (pairOf r).getLsbD 0 = true := by rw [pairOf, BitVec.getLsbD_or]; exact Bool.or_true _
  rw [← h, heven] at hodd
  cases hodd

theorem State.readGpr_loadQuad (s : State) (rt q : Reg) (a : RealAddr) (ea : Word) : (s.loadQuad rt a ea).readGpr q =
    if q = pairOf rt then s.readDw (a + 8) else if q = rt then s.readDw a else s.readGpr q := by
  rw [State.loadQuad, State.readGpr_withOperand, State.readGpr_setGpr, State.readGpr_setGpr, State.readGpr_advance]

theorem State.byte_loadQuad (s : State) (rt : Reg) (a x : RealAddr) (ea : Word) : (s.loadQuad rt a ea).byte x = s.byte x := by
  rw [State.loadQuad, State.byte_withOperand, State.byte_setGpr, State.byte_setGpr, State.byte_advance]

theorem State.readDw_loadQuad (s : State) (rt : Reg) (a x : RealAddr) (ea : Word) :
    (s.loadQuad rt a ea).readDw x = s.readDw x := by
  simp only [State.readDw, State.byte_loadQuad]

/-- Storage after `stq`: two doublewords stored, the first at the lower address. -/
theorem State.byte_storeQuad (s : State) (rs : Reg) (a y : RealAddr) (ea : Word) : (s.storeQuad rs a ea).byte y =
    ((s.writeDw a (s.readGpr rs)).writeDw (a + 8) (s.readGpr (pairOf rs))).byte y := rfl

/-- The second doubleword does not reach back into the first. -/
theorem not_within_second {a : RealAddr} {k : Nat} (hk : k < 8) : ¬within (a + BitVec.ofNat 62 k) (a + 8) 8 := by
  rw [within, add_sub_add_left_eq_sub]
  interval_cases k <;> decide

theorem State.readDw_storeQuad_first (s : State) (rs : Reg) (a : RealAddr) (ea : Word) :
    (s.storeQuad rs a ea).readDw a = s.readGpr rs := by
  refine State.readDw_of_bytes fun k hk => ?_
  rw [State.byte_storeQuad, State.byte_writeDw_outside _ _ (not_within_second hk), State.byte_writeDw_within _ _ _ hk]

theorem State.readDw_storeQuad_second (s : State) (rs : Reg) (a : RealAddr) (ea : Word) :
    (s.storeQuad rs a ea).readDw (a + 8) = s.readGpr (pairOf rs) := by
  refine State.readDw_of_bytes fun k hk => ?_
  rw [State.byte_storeQuad, State.byte_writeDw_within _ _ _ hk]

theorem State.byte_storeQuad_outside (s : State) (rs : Reg) {a y : RealAddr} (ea : Word) (hy : ¬within y a 16) :
    (s.storeQuad rs a ea).byte y = s.byte y := by
  have hfirst : ¬within y a 8 := fun h => hy (Nat.lt_trans h (by decide))
  have hsecond : ¬within y (a + 8) 8 := by
    intro h
    apply hy
    rw [within] at h ⊢
    bv_omega
  rw [State.byte_storeQuad, State.byte_writeDw_outside _ _ hsecond, State.byte_writeDw_outside _ _ hfirst]

/-! ### The access that records R and C (R175) -/

/-- `lq` records R, `stq` R and C, and the pages' use is noted. -/
theorem State.commit_quad (s : State) (store : Bool) {x : Target} {e : TlbEntry} {cached : Bool} (hentry : x.entry = some (e, cached)) :
    s.commit (.quad store) x = (s.record e cached store).use (x.pageUses (AccessKind.quad store).recording) := by
  rw [State.commit, hentry]
  cases store <;> rfl

/-- The access to an operand in a page, where every check passes. -/
theorem State.dataAccess_quad_mapped {s : State} {store : Bool} {ea : Word} {b : SlbEntry} {e : TlbEntry} {cached : Bool}
    (hpath : s.path (dr s.msr) ea = .mapped b e cached) (hwi : (e.w && e.i) = false)
    (hno : (s.mappedViolation (.quad store) (.whole ea 16) b e).any = false)
    (hpresent : absentHit s.cfg (e.realAddress s.cfg ea) 16 = false) (hrecord : recordAbsent s.cfg e store = false) :
    ∃ us, s.dataAccess (.quad store) ea 16 = .ok (e.realAddress s.cfg ea) (((s.drawn 3).record e cached store).use us) := by
  have hr : (AccessKind.quad store).recording = .nothing
      ∨ recordAbsent s.cfg e ((AccessKind.quad store).recording == .change) = false := by
    cases store <;> exact .inr hrecord
  have haccess := State.dataAccess_of_probe_ok hpath (State.probe_mapped_ok hwi hno hpresent hr)
  rw [State.commit_quad _ _ rfl] at haccess
  exact ⟨_, haccess⟩

theorem State.fetchAddress_use (s : State) (us : List PageUse) (addr : Word) :
    (s.use us).fetchAddress addr = s.fetchAddress addr := rfl

theorem State.storeQuad_use (s : State) (us : List PageUse) (rs : Reg) (a : RealAddr) (ea : Word) :
    (s.use us).storeQuad rs a ea = (s.storeQuad rs a ea).use us := rfl

/-- Noting the pages used alters nothing that a fetch address depends on. -/
theorem State.noImplicitBranch_use {s t : State} (us : List PageUse) (h : s.noImplicitBranch t) : s.noImplicitBranch (t.use us) := by
  rw [State.noImplicitBranch, State.fetchAddress_use, State.fetchAddress_use, State.use_nia]
  exact h

/-- Recording sets R in one byte and, for a store, C in the next, each only where it was 0. -/
theorem State.byte_record_eq (s : State) (e : TlbEntry) (cached store : Bool) (x : RealAddr) :
    (s.record e cached store).byte x =
      if x = e.pteAddr + 14 ∧ e.r = false then s.byte x ||| 1
      else if x = e.pteAddr + 15 ∧ (!store || e.c) = false then s.byte x ||| 0x80 else s.byte x := by
  have hne : e.pteAddr + 15 ≠ e.pteAddr + 14 := by simp
  rw [State.byte_record]
  by_cases h15 : x = e.pteAddr + 15
  · have h14 : ¬(x = e.pteAddr + 14 ∧ e.r = false) := fun h => hne (h15.symm.trans h.1)
    rw [if_pos h15, if_neg h14]
    cases !store || e.c
    · exact (if_pos ⟨h15, rfl⟩).symm
    · exact (if_neg fun h => Bool.noConfusion h.2).symm
  · have hno : ¬(x = e.pteAddr + 15 ∧ (!store || e.c) = false) := fun h => h15 h.1
    rw [if_neg h15, if_neg hno, ← ite_not, ite_and]
    cases e.r <;> simp

/-- The state in which the access of `lq` or `stq` through translation has recorded R, and C for a store. -/
structure Recorded (s u : State) (e : TlbEntry) (store : Bool) : Prop where
  frame : u = { s with mem := u.mem, tlb := u.tlb, run := u.run }
  byte : ∀ x, u.byte x = if x = e.pteAddr + 14 ∧ e.r = false then s.byte x ||| 1
    else if x = e.pteAddr + 15 ∧ (!store || e.c) = false then s.byte x ||| 0x80 else s.byte x

theorem State.recorded (s : State) (e : TlbEntry) (cached store : Bool) (us : List PageUse) :
    Recorded s (((s.drawn 3).record e cached store).use us) e store :=
  ⟨rfl, (s.drawn 3).byte_record_eq e cached store⟩

theorem Recorded.readGpr {s u : State} {e : TlbEntry} {store : Bool} (h : Recorded s u e store) (q : Reg) :
    u.readGpr q = s.readGpr q := by
  rw [h.frame]
  rfl

section Mapped

variable {r ra : Reg} {s : State} {b : SlbEntry} {e : TlbEntry} {cached : Bool} (hq : s.cfg.hasLqstq = true)
  (hp : s.problem = false) (hover : s.run.overflow = false) (hoff : s.breakpointsOff) (heven : r.getLsbD 0 = false)
  (hac : e.ac = false) (hw : e.w = false) (hi : e.i = false)
include hq hp hover hoff heven hac hw hi

/-- `lq` loads from the state in which R is recorded. -/
theorem exec_lq_mapped {dq : BitVec 12} (hne : r ≠ ra) (hea : lqEa s dq ra &&& 15 = 0)
    (hpath : s.path (dr s.msr) (lqEa s dq ra) = .mapped b e cached) (hmay : mayRead b.ks e.pp = true)
    (hpresent : absentHit s.cfg (e.realAddress s.cfg (lqEa s dq ra)) 16 = false) (hrecord : recordAbsent s.cfg e false = false) :
    ∃ us, exec (.lq r dq ra) s = .next ((((s.drawn 3).record e cached false).use us).loadQuad r
      (e.realAddress s.cfg (lqEa s dq ra)) (lqEa s dq ra)) := by
  obtain ⟨us, haccess⟩ := State.dataAccess_quad_mapped (store := false) hpath (Bool.and_eq_false_iff.mpr (.inl hw))
    (State.mappedViolation_quad_any hoff hp hac hw hi hmay) hpresent hrecord
  refine ⟨us, ?_⟩
  rw [exec_lq_access hq hp (by rw [hover, Bool.and_false]) heven hne hea, haccess]
  rfl

/-- `stq` stores in the state in which R and C are recorded. -/
theorem exec_stq_mapped {ds : BitVec 14} (hea : stqEa s ds ra &&& 15 = 0)
    (hpath : s.path (dr s.msr) (stqEa s ds ra) = .mapped b e cached) (hmay : mayWrite b.ks e.pp = true)
    (hpresent : absentHit s.cfg (e.realAddress s.cfg (stqEa s ds ra)) 16 = false) (hrecord : recordAbsent s.cfg e true = false)
    (hbranch : s.noImplicitBranch (((s.drawn 3).record e cached true).storeQuad r (e.realAddress s.cfg (stqEa s ds ra))
      (stqEa s ds ra))) :
    ∃ us, exec (.stq r ds ra) s = .next ((((s.drawn 3).record e cached true).use us).storeQuad r
      (e.realAddress s.cfg (stqEa s ds ra)) (stqEa s ds ra)) := by
  obtain ⟨us, haccess⟩ := State.dataAccess_quad_mapped (store := true) hpath (Bool.and_eq_false_iff.mpr (.inl hw))
    (State.mappedViolation_quad_any hoff hp hac hw hi hmay) hpresent hrecord
  refine ⟨us, ?_⟩
  rw [exec_stq_access hq hp (by rw [hover, Bool.and_false]) heven hea, haccess]
  refine State.alter_next.mpr ⟨implicitBranch_eq_false.mpr ?_, rfl⟩
  rw [State.storeQuad_use]
  exact State.noImplicitBranch_use us hbranch

end Mapped

/-- Settles O50: the operand is accessed in the state in which R and C are recorded; registers and bytes are read off there. -/
theorem quadThroughTranslation : Obligations.QuadThroughTranslation := by
  intro r ra dq ds s b e cached hq hp hdr hover hoff heven hac hw hi
  constructor
  · intro ea a hne hea hpath hmay hpresent hrecord
    obtain ⟨us, hexec⟩ := exec_lq_mapped hq hp hover hoff heven hac hw hi hne hea (hdr ▸ hpath) hmay hpresent hrecord
    have hrecorded := s.recorded e cached false us
    generalize ((s.drawn 3).record e cached false).use us = u at hexec hrecorded
    refine ⟨_, hexec, ?_, ?_, fun q hr hpair => ?_, fun x => ?_, ?_⟩
    · rw [State.readGpr_loadQuad, if_neg (ne_pairOf heven), if_pos rfl, State.readDw_loadQuad]
    · rw [State.readGpr_loadQuad, State.readDw_loadQuad]
      exact if_pos rfl
    · rw [State.readGpr_loadQuad, if_neg hr, hrecorded.readGpr]
      exact if_neg hpair
    · rw [State.byte_loadQuad, hrecorded.byte]
      exact ite_congr rfl (fun _ => rfl) fun _ => if_neg fun h => Bool.noConfusion h.2
    · rw [hrecorded.frame]
      rfl
  · intro ea a hea hpath hmay hpresent hrecord hbranch
    obtain ⟨us, hexec⟩ := exec_stq_mapped hq hp hover hoff heven hac hw hi hea (hdr ▸ hpath) hmay hpresent hrecord hbranch
    have hrecorded := s.recorded e cached true us
    generalize ((s.drawn 3).record e cached true).use us = u at hexec hrecorded
    refine ⟨_, hexec, ?_, ?_, fun x hx => ?_, ?_⟩
    · rw [State.readDw_storeQuad_first, hrecorded.readGpr]
    · rw [State.readDw_storeQuad_second, hrecorded.readGpr]
      rfl
    · rw [State.byte_storeQuad_outside _ _ _ hx, hrecorded.byte]
      rfl
    · rw [hrecorded.frame]
      rfl

end Sys2Proof.Machine
end

section
/-! PROOFS. The virtual address (O56), and the real address in a page (O58). -/

namespace Sys2Proof.Machine

/-! ### The virtual address (R204) -/

theorem virtualAddress_toNat (e : SlbEntry) (ea : Word) :
    (virtualAddress e ea).toNat = e.vsid.toNat * 2 ^ 28 + ea.toNat % 2 ^ 28 := by
  have hoffset : (field ea 36 28).toNat = ea.toNat % 2 ^ 28 := BitVec.extractLsb'_toNat 0 28 ea
  rw [virtualAddress, toNat_append_eq, hoffset]

theorem vpnOf_toNat (c : Params) (large : Bool) (va : BitVec 80) : (vpnOf c large va).toNat = va.toNat / 2 ^ pageBits c large := by
  rw [vpnOf, BitVec.toNat_ushiftRight, Nat.shiftRight_eq_div_pow]

/-- Settles O56 (its own name is that of the function): the VSID stands above EA[36:63], and the page number drops the p bits of
the byte offset. -/
theorem virtualAddress_and_vpn : Obligations.VirtualAddress := fun c e ea large =>
  ⟨virtualAddress_toNat e ea, vpnOf_toNat c large (virtualAddress e ea)⟩

/-! ### The real address (R222) -/

theorem pageBits_le {c : Params} (large : Bool) (hlarge : c.largePageBits ≤ 28) : pageBits c large ≤ 28 := by
  cases large with
  | true => exact hlarge
  | false => exact (by decide : smallPageBits ≤ 28)

/-- The mask of `n` low-order bits keeps the remainder by 2^n. -/
theorem and_lowMask_toNat {w n : Nat} (x : BitVec w) (hn : n < w) : (x &&& ((1#w <<< n) - 1#w)).toNat = x.toNat % 2 ^ n := by
  have hmask : ((1#w <<< n) - 1#w).toNat = 2 ^ n - 1 := by
    have hshift : (1#w <<< n).toNat = 2 ^ n := by rw [← BitVec.twoPow_eq, BitVec.toNat_twoPow_of_lt hn]
    have hone : (1#w).toNat = 1 := BitVec.toNat_one (Nat.zero_lt_of_lt hn)
    have hle : 1#w ≤ 1#w <<< n := by
      rw [BitVec.le_def, hshift, hone]
      exact Nat.two_pow_pos n
    rw [BitVec.toNat_sub_of_le hle, hshift, hone]
  rw [BitVec.toNat_and, hmask, Nat.and_two_pow_sub_one_eq_mod]

/-- Clearing the `p` low-order bits leaves the multiple of 2^p. -/
theorem ushiftRight_shiftLeft_toNat {w : Nat} (x : BitVec w) (p : Nat) : (x >>> p <<< p).toNat = x.toNat / 2 ^ p * 2 ^ p := by
  have hle : x.toNat / 2 ^ p * 2 ^ p ≤ x.toNat := Nat.div_mul_le_self _ _
  rw [BitVec.toNat_shiftLeft, BitVec.toNat_ushiftRight, Nat.shiftRight_eq_div_pow, Nat.shiftLeft_eq,
    Nat.mod_eq_of_lt (hle.trans_lt x.isLt)]

/-- The page number of the entry and the byte offset have no bit in common, so that their OR is their sum. -/
theorem TlbEntry.realAddress_toNat {c : Params} {e : TlbEntry} (ea : Word) (hp : pageBits c e.large < 62) :
    (e.realAddress c ea).toNat =
      e.dw1.toNat % 2 ^ 62 / 2 ^ pageBits c e.large * 2 ^ pageBits c e.large + ea.toNat % 2 ^ pageBits c e.large := by
  have hoffset : (ea.setWidth 62 &&& ((1#62 <<< pageBits c e.large) - 1)).toNat = ea.toNat % 2 ^ pageBits c e.large := by
    rw [← Nat.mod_mod_of_dvd ea.toNat (pow_dvd_pow 2 hp.le), ← BitVec.toNat_setWidth]
    exact and_lowMask_toNat _ hp
  rw [TlbEntry.realAddress, BitVec.toNat_or, ushiftRight_shiftLeft_toNat, BitVec.toNat_setWidth, hoffset, ← Nat.shiftLeft_eq,
    Nat.shiftLeft_add_eq_or_of_lt (Nat.mod_lt _ (Nat.two_pow_pos _))]

/-- Settles O58: the real address in words of `pageBits`, which is at most 28. -/
theorem realAddressOfPage : Obligations.RealAddressOfPage := fun _ e ea hlarge =>
  TlbEntry.realAddress_toNat ea ((pageBits_le e.large hlarge).trans_lt (by decide))

end Sys2Proof.Machine
end

section
/-! PROOFS. Translation that fails: the segment fault and two matching entries (O24), the page fault (O25); and the protection of
a page against a fetch (O26). -/

namespace Sys2Proof.Machine

/-! ### The path of a translated access (R200, R203, R224) -/

section Translate

variable {s : State} {ea : Word}

theorem State.mem_slbMatches (e : SlbEntry) : e ∈ s.slbMatches ea ↔ e ∈ s.slb ∧ e.v = true ∧ e.esid = field ea 0 36 := by
  simp only [State.slbMatches, List.mem_filter, Bool.and_eq_true, beq_iff_eq]

variable {relocate : Bool} (hrelocate : relocate = true) (hle : le s.msr = false)
include hrelocate hle

theorem State.path_of_relocate : s.path relocate ea = s.translate ea := by
  rw [State.path, hle, hrelocate]
  rfl

theorem State.path_of_no_segment (hnone : s.slbMatches ea = []) : s.path relocate ea = .segment := by
  rw [State.path_of_relocate hrelocate hle, State.translate, hnone]

theorem State.path_of_duplicate_segment (htwo : 2 ≤ (s.slbMatches ea).length) : s.path relocate ea = .refuse .duplicateSlb := by
  rw [State.path_of_relocate hrelocate hle, State.translate]
  match hmatches : s.slbMatches ea, htwo with
  | _ :: _ :: _, _ => rfl

theorem State.path_of_miss {b : SlbEntry} (hone : s.slbMatches ea = [b]) (hlarge : b.l = true → s.cfg.largePages = true)
    (hmiss : s.lookup b.l (virtualAddress b ea) = .miss) : s.path relocate ea = .page := by
  have hsupported : (b.l && !s.cfg.largePages) = false := by simpa using hlarge
  rw [State.path_of_relocate hrelocate hle, State.translate, hone]
  simp only [hsupported, hmiss]
  rfl

end Translate

/-! ### What a fetch answers (R468, R471) -/

section Fetch

variable {s : State}

theorem State.fetch_of_segment (hpath : s.path (ir s.msr) s.cia = .segment) : s.fetch = .trap s.instSegment := by
  rw [State.fetch, hpath]

theorem State.fetch_of_page (hpath : s.path (ir s.msr) s.cia = .page) : s.fetch = .trap (s.instStorage (bitIf 33 true)) := by
  rw [State.fetch, hpath]

theorem State.fetch_of_refuse {r : Refusal} (hpath : s.path (ir s.msr) s.cia = .refuse r) : s.fetch = .refuse r := by
  rw [State.fetch, hpath]

theorem State.fetch_of_protected {b : SlbEntry} {e : TlbEntry} {cached : Bool} (hpath : s.path (ir s.msr) s.cia = .mapped b e cached)
    (hwi : (e.w && e.i) = false) (hinfo : fetchInfo s.msr b e ≠ 0) :
    s.fetch = .trap ((s.keep e cached).instStorage (fetchInfo s.msr b e)) := by
  rw [State.fetch, hpath]
  exact (if_neg (Bool.eq_false_iff.mp hwi)).trans (if_pos hinfo)

end Fetch

/-! ### What a data access answers (R465, R469, R470) -/

theorem State.dataSegment_stopped (s : State) (a : Word) : StoppedAt s (s.dataSegment a) .dataSegment :=
  ⟨⟨rfl, rfl⟩, s.ea32_cia, srr1Of_zero _, rfl, rfl, rfl⟩

section Data

variable {s : State} {k : AccessKind} {ea : Word} {n : Nat}

theorem State.dataAccess_of_segment (hpath : s.path (dr s.msr) ea = .segment) :
    s.dataAccess k ea n = .trap ((s.drawn 3).dataSegment ea) := State.dataAccess_of_probe_trap hpath rfl

theorem State.dataAccess_of_page (hpath : s.path (dr s.msr) ea = .page) :
    s.dataAccess k ea n = .trap ((s.drawn 3).dataStorage (hbitIf 1 true ||| hbitIf 6 k.store) ea) :=
  State.dataAccess_of_probe_trap hpath rfl

theorem State.dataAccess_of_refuse {r : Refusal} (hpath : s.path (dr s.msr) ea = .refuse r) : s.dataAccess k ea n = .refuse r := by
  rw [State.dataAccess, hpath]
  rfl

end Data

/-- Settles O24: the path of the access is `segment` without a match and refused with two, for a fetch and a data access alike. -/
theorem slbSearch : Obligations.SlbSearch := by
  refine ⟨fun s ea e => State.mem_slbMatches e, fun s hir hle hnone => ?_, fun s k ea n hdr hle hnone => ?_,
    fun s k ea n hdr hle htwo => State.dataAccess_of_refuse (State.path_of_duplicate_segment hdr hle htwo),
    fun s hir hle htwo => State.fetch_of_refuse (State.path_of_duplicate_segment hir hle htwo)⟩
  · have hstop := s.takeInterrupt_stopped (k := .instSegment) rfl
    exact ⟨_, State.fetch_of_segment (State.path_of_no_segment hir hle hnone), hstop.entered, hstop.srr0, hstop.srr1, hstop.gpr,
      hstop.mem⟩
  · have hstop : StoppedAt s ((s.drawn 3).dataSegment ea) .dataSegment :=
      ((s.drawn 3).dataSegment_stopped ea).of_same ⟨_, _, rfl⟩
    exact ⟨_, State.dataAccess_of_segment (State.path_of_no_segment hdr hle hnone), hstop.entered, hstop.srr0, hstop.srr1, rfl,
      hstop.gpr, hstop.mem⟩

/-- Settles O25: the path of the access is `page`; SRR1 of the fetch and the DSISR of the data access name that cause. -/
theorem pageFault : Obligations.PageFault := by
  refine ⟨fun s b hir hle hone hlarge hmiss => ?_, fun s k ea n b hdr hle hone hlarge hmiss => ?_⟩
  · exact ⟨_, State.fetch_of_page (State.path_of_miss hir hle hone hlarge hmiss), ⟨rfl, rfl⟩, s.ea32_cia,
      srr1Of_or_bitIf_47_and s.msr _ (by decide), rfl, rfl⟩
  · have hstop : StoppedAt s ((s.drawn 3).dataStorage (hbitIf 1 true ||| hbitIf 6 k.store) ea) .dataStorage :=
      ((s.drawn 3).dataStorage_stopped _ ea).of_same ⟨_, _, rfl⟩
    have hcause (store : Bool) : hbitIf 1 true ||| hbitIf 6 store = if store then 0x42000000 else 0x40000000 := by
      cases store <;> decide
    have hdefined (store : Bool) : (hbitIf 1 true ||| hbitIf 6 store) &&& ~~~0x10000 = hbitIf 1 true ||| hbitIf 6 store := by
      cases store <;> decide
    exact ⟨_, State.dataAccess_of_page (State.path_of_miss hdr hle hone hlarge hmiss), hstop.entered, hstop.srr0, rfl,
      (or_hbitIf_15_and _ (hdefined k.store)).trans (hcause k.store), hstop.gpr, hstop.mem⟩

/-! ### Protection (R223, R231 to R233) -/

theorem key_eq (m : Word) (b : SlbEntry) : key m b = ((b.kp && pr m) || (b.ks && !pr m)) := by
  rw [key]
  cases pr m <;> simp

theorem bit_fetchInfo_35 (m : Word) (b : SlbEntry) (e : TlbEntry) : bit (fetchInfo m b e) 35 = (b.n || e.n || e.g) := by
  rw [fetchInfo, bit_or, bit_bitIf _ (by decide) (by decide), bit_bitIf _ (by decide) (by decide)]
  simp

theorem bit_fetchInfo_36 (m : Word) (b : SlbEntry) (e : TlbEntry) : bit (fetchInfo m b e) 36 = !mayRead (key m b) e.pp := by
  rw [fetchInfo, bit_or, bit_bitIf _ (by decide) (by decide), bit_bitIf _ (by decide) (by decide)]
  simp

/-- One of the two causes makes it nonzero, so that the fetch is stopped. -/
theorem fetchInfo_ne_zero {m : Word} {b : SlbEntry} {e : TlbEntry} (h : ((b.n || e.n || e.g) || !mayRead (key m b) e.pp) = true) :
    fetchInfo m b e ≠ 0 := by
  intro hzero
  rw [← bit_fetchInfo_35 m, ← bit_fetchInfo_36, hzero] at h
  exact absurd h (by decide)

/-- Bits 33 to 36 of SRR1 after an Instruction Storage interrupt are its cause; bit 47, which is undefined, is none of them. -/
theorem State.bit_instStorage_srr1 (s : State) (info : Word) {i : Nat} (hi : 33 ≤ i ∧ i ≤ 36) :
    bit (s.instStorage info).spr.srr1 i = bit info i := by
  have hsrr1 : (s.instStorage info).spr.srr1 = srr1Of s.msr (info ||| bitIf 47 (Config.freeBit s.run.draws)) := rfl
  have hmask : bit infoMask i = true := by
    obtain ⟨hlo, hhi⟩ := hi
    interval_cases i <;> decide
  rw [hsrr1, srr1Of, bit_insertBits _ _ _ (by omega), if_pos hmask, bit_or, bit_bitIf _ (by decide) (by omega),
    decide_eq_false (show 47 ≠ i by omega), Bool.and_false, Bool.or_false]

/-- Settles O26: the table by its eight cases; a fetch that has a cause is stopped with SRR1 naming it. -/
theorem protectionRules : Obligations.ProtectionRules := by
  refine ⟨key_eq, by decide, by decide, ?_⟩
  intro s b e cached hpath hwi stopped allowed hcause
  refine ⟨_, State.fetch_of_protected hpath hwi (fetchInfo_ne_zero hcause), ⟨rfl, rfl⟩, s.ea32_cia, ?_, ?_, rfl, rfl⟩
  · exact (State.bit_instStorage_srr1 _ _ (by decide)).trans (bit_fetchInfo_35 _ _ _)
  · exact (State.bit_instStorage_srr1 _ _ (by decide)).trans (bit_fetchInfo_36 _ _ _)

end Sys2Proof.Machine
end

section
/-! PROOFS. Encoding and decoding (O1, O2, O3): the fields of a word, the opcodes of each row and its operands. -/

namespace Sys2Proof

/-! ### Words as fields (R281, R290) -/

theorem append_eq_append_iff {m n : Nat} {x x' : BitVec m} {y y' : BitVec n} : x ++ y = x' ++ y' ↔ x = x' ∧ y = y' := by
  constructor
  · intro h
    have hx := congrArg (BitVec.extractLsb' n m) h
    have hy := congrArg (BitVec.extractLsb' 0 n) h
    rw [BitVec.extractLsb'_append_eq_left, BitVec.extractLsb'_append_eq_left] at hx
    rw [BitVec.extractLsb'_append_eq_right, BitVec.extractLsb'_append_eq_right] at hy
    exact ⟨hx, hy⟩
  · rintro ⟨rfl, rfl⟩
    rfl

theorem swapHalves_swapHalves (f : BitVec 10) : swapHalves (swapHalves f) = f := by
  rw [swapHalves, swapHalves, BitVec.extractLsb'_append_eq_right, BitVec.extractLsb'_append_eq_left]
  exact BitVec.extractLsb'_append_extractLsb'

/-- A change outside the bits of `a` and `b` does not show under `a`. -/
theorem xor_unused_and (w r a b : Half) : (w ^^^ (r &&& ~~~(a ||| b))) &&& a = w &&& a := by
  refine BitVec.eq_of_getLsbD_eq fun k hk => ?_
  simp only [BitVec.getLsbD_and, BitVec.getLsbD_xor, BitVec.getLsbD_not, BitVec.getLsbD_or]
  cases a.getLsbD k <;> simp

theorem wordOfBytes_extract (w : Half) :
    wordOfBytes (w.extractLsb' 24 8) (w.extractLsb' 16 8) (w.extractLsb' 8 8) (w.extractLsb' 0 8) = w := by
  refine BitVec.eq_of_getLsbD_eq fun k hk => ?_
  simp only [wordOfBytes, BitVec.getLsbD_append, BitVec.getLsbD_extractLsb']
  interval_cases k <;> simp

theorem bit1_eq_one_iff (b : Bool) : bit1 b = 1#1 ↔ b = true := by
  cases b <;> decide

theorem ifield_xform (f6 f11 f16 : BitVec 5) (xo : BitVec 10) :
    ifield (xform f6 f11 f16 xo) 6 5 = f6 ∧ ifield (xform f6 f11 f16 xo) 11 5 = f11
      ∧ ifield (xform f6 f11 f16 xo) 16 5 = f16 := by
  refine ⟨?_, ?_, ?_⟩ <;>
    simp (disch := omega) only [ifield, xform, BitVec.extractLsb'_append_eq_of_le, BitVec.extractLsb'_append_eq_of_add_le,
      Nat.reduceSub, BitVec.extractLsb'_eq_self]

/-! Operands that are narrower than their field of five bits: its last bit, or its last four. -/

theorem ibit_10 (w : Half) : ibit w 10 = (ifield w 6 5).getLsbD 0 := (BitVec.getLsbD_extractLsb' 21 5 w 0).symm

theorem ibit_15 (w : Half) : ibit w 15 = (ifield w 11 5).getLsbD 0 := (BitVec.getLsbD_extractLsb' 16 5 w 0).symm

theorem ifield_12 (w : Half) : ifield w 12 4 = (ifield w 11 5).extractLsb' 0 4 := by
  refine BitVec.eq_of_getLsbD_eq fun k hk => ?_
  simp only [ifield, BitVec.getLsbD_extractLsb']
  simp [hk, Nat.lt_succ_of_lt hk]

theorem lastBit_bit1 (b : Bool) : (0#4 ++ bit1 b).getLsbD 0 = b := by
  cases b <;> rfl

theorem bit1_lastBit (f : BitVec 5) : 0#4 ++ bit1 (f.getLsbD 0) = f &&& 1 := by
  revert f
  decide

theorem append_low4 (f : BitVec 5) : 0#1 ++ f.extractLsb' 0 4 = f &&& 15 := by
  revert f
  decide

/-! ### The opcodes of a row (R282, R291) -/

/-- The fields of a word that the decoder tests hold the opcodes of the instruction's row. -/
def Instr.OpcodesIn (w : Half) : Instr → Prop
  | .sc _ => ifield w 0 6 = 17 ∧ ibit w 30 = true
  | .rfid => ifield w 0 6 = 19 ∧ ifield w 21 10 = 18
  | .hrfid => ifield w 0 6 = 19 ∧ ifield w 21 10 = 274
  | .mtspr _ _ => ifield w 0 6 = 31 ∧ ifield w 21 10 = 467
  | .mfspr _ _ => ifield w 0 6 = 31 ∧ ifield w 21 10 = 339
  | .mtmsrd _ _ => ifield w 0 6 = 31 ∧ ifield w 21 10 = 178
  | .mfmsr _ => ifield w 0 6 = 31 ∧ ifield w 21 10 = 83
  | .mtmsr _ _ => ifield w 0 6 = 31 ∧ ifield w 21 10 = 146
  | .slbie _ => ifield w 0 6 = 31 ∧ ifield w 21 10 = 434
  | .slbia => ifield w 0 6 = 31 ∧ ifield w 21 10 = 498
  | .slbmte _ _ => ifield w 0 6 = 31 ∧ ifield w 21 10 = 402
  | .slbmfev _ _ => ifield w 0 6 = 31 ∧ ifield w 21 10 = 851
  | .slbmfee _ _ => ifield w 0 6 = 31 ∧ ifield w 21 10 = 915
  | .tlbie _ _ => ifield w 0 6 = 31 ∧ ifield w 21 10 = 306
  | .tlbiel _ _ => ifield w 0 6 = 31 ∧ ifield w 21 10 = 274
  | .tlbia => ifield w 0 6 = 31 ∧ ifield w 21 10 = 370
  | .tlbsync => ifield w 0 6 = 31 ∧ ifield w 21 10 = 566
  | .lq _ _ _ => ifield w 0 6 = 56
  | .stq _ _ _ => ifield w 0 6 = 62 ∧ ifield w 30 2 = 2
  | .mtsr _ _ => ifield w 0 6 = 31 ∧ ifield w 21 10 = 210
  | .mtsrin _ _ => ifield w 0 6 = 31 ∧ ifield w 21 10 = 242
  | .mfsr _ _ => ifield w 0 6 = 31 ∧ ifield w 21 10 = 595
  | .mfsrin _ _ => ifield w 0 6 = 31 ∧ ifield w 21 10 = 659
  | .ptesync => ifield w 0 6 = 31 ∧ ifield w 9 2 = 2 ∧ ifield w 21 10 = 598

/-- What each mask of the table keeps of a word: the fields that hold opcodes. -/
theorem and_masks (w : Half) :
    w &&& 0xFC000000 = ifield w 0 6 ++ 0#26
      ∧ w &&& 0xFC000002 = ifield w 0 6 ++ 0#24 ++ bit1 (ibit w 30) ++ 0#1
      ∧ w &&& 0xFC000003 = ifield w 0 6 ++ 0#24 ++ ifield w 30 2
      ∧ w &&& 0xFC0007FE = ifield w 0 6 ++ 0#15 ++ ifield w 21 10 ++ 0#1
      ∧ w &&& 0xFC6007FE = ifield w 0 6 ++ 0#3 ++ ifield w 9 2 ++ 0#10 ++ ifield w 21 10 ++ 0#1 := by
  refine ⟨?_, ?_, ?_, ?_, ?_⟩ <;>
  · refine BitVec.eq_of_getLsbD_eq fun k hk => ?_
    simp only [ifield, ibit, bit1, BitVec.getLsbD_and, BitVec.getLsbD_append, BitVec.getLsbD_extractLsb', BitVec.getLsbD_ofBool]
    interval_cases k <;> simp

/-- The mask of a row that has an extended opcode in instruction bits 21 to 30. -/
theorem and_xoMask_eq_iff {w pattern : Half} {op : BitVec 6} {xo : BitVec 10} (hpattern : pattern = op ++ 0#15 ++ xo ++ 0#1) :
    w &&& 0xFC0007FE = pattern ↔ ifield w 0 6 = op ∧ ifield w 21 10 = xo := by
  obtain ⟨-, -, -, hmask, -⟩ := and_masks w
  rw [hpattern, hmask, append_eq_append_iff, append_eq_append_iff, append_eq_append_iff]
  simp only [and_true]

/-- A word matches its row when the fields that hold opcodes do. -/
theorem matchesRow_iff (w : Half) (i : Instr) : w &&& i.rowMask = i.rowMatch ↔ i.OpcodesIn w := by
  cases i with
  | sc _ =>
    show w &&& 0xFC000002 = 17#6 ++ 0#24 ++ 1#1 ++ 0#1 ↔ ifield w 0 6 = 17#6 ∧ ibit w 30 = true
    simp only [and_masks, append_eq_append_iff, bit1_eq_one_iff, and_true]
  | lq _ _ _ =>
    show w &&& 0xFC000000 = 56#6 ++ 0#26 ↔ ifield w 0 6 = 56#6
    simp only [and_masks, append_eq_append_iff, and_true]
  | stq _ _ _ =>
    show w &&& 0xFC000003 = 62#6 ++ 0#24 ++ 2#2 ↔ ifield w 0 6 = 62#6 ∧ ifield w 30 2 = 2#2
    simp only [and_masks, append_eq_append_iff, and_true]
  | ptesync =>
    show w &&& 0xFC6007FE = 31#6 ++ 0#3 ++ 2#2 ++ 0#10 ++ 598#10 ++ 0#1 ↔
      ifield w 0 6 = 31#6 ∧ ifield w 9 2 = 2#2 ∧ ifield w 21 10 = 598#10
    simp only [and_masks, append_eq_append_iff, and_true, and_assoc]
  | _ => exact and_xoMask_eq_iff rfl

/-- The lemmas of each row together. -/
theorem encode_matchesRow (i : Instr) : Laws.MatchesRow.Statement i :=
  match i with
  | .sc lev => Laws.MatchesRow.sc lev
  | .rfid => Laws.MatchesRow.rfid
  | .hrfid => Laws.MatchesRow.hrfid
  | .mtspr spr rs => Laws.MatchesRow.mtspr spr rs
  | .mfspr rt spr => Laws.MatchesRow.mfspr rt spr
  | .mtmsrd rs l => Laws.MatchesRow.mtmsrd rs l
  | .mfmsr rt => Laws.MatchesRow.mfmsr rt
  | .mtmsr rs l => Laws.MatchesRow.mtmsr rs l
  | .slbie rb => Laws.MatchesRow.slbie rb
  | .slbia => Laws.MatchesRow.slbia
  | .slbmte rs rb => Laws.MatchesRow.slbmte rs rb
  | .slbmfev rt rb => Laws.MatchesRow.slbmfev rt rb
  | .slbmfee rt rb => Laws.MatchesRow.slbmfee rt rb
  | .tlbie rb l => Laws.MatchesRow.tlbie rb l
  | .tlbiel rb l => Laws.MatchesRow.tlbiel rb l
  | .tlbia => Laws.MatchesRow.tlbia
  | .tlbsync => Laws.MatchesRow.tlbsync
  | .lq rt dq ra => Laws.MatchesRow.lq rt dq ra
  | .stq rs ds ra => Laws.MatchesRow.stq rs ds ra
  | .mtsr sr rs => Laws.MatchesRow.mtsr sr rs
  | .mtsrin rs rb => Laws.MatchesRow.mtsrin rs rb
  | .mfsr rt sr => Laws.MatchesRow.mfsr rt sr
  | .mfsrin rt rb => Laws.MatchesRow.mfsrin rt rb
  | .ptesync => Laws.MatchesRow.ptesync

/-! ### The operands of a row (R281 to R284, R290) -/

/-- The instruction of the same row whose operands are those of the word. -/
def Instr.readFrom (w : Half) : Instr → Instr
  | .sc _ => .sc (ibit w 26)
  | .rfid => .rfid
  | .hrfid => .hrfid
  | .mtspr _ _ => .mtspr (swapHalves (ifield w 11 10)) (ifield w 6 5)
  | .mfspr _ _ => .mfspr (ifield w 6 5) (swapHalves (ifield w 11 10))
  | .mtmsrd _ _ => .mtmsrd (ifield w 6 5) (ibit w 15)
  | .mfmsr _ => .mfmsr (ifield w 6 5)
  | .mtmsr _ _ => .mtmsr (ifield w 6 5) (ibit w 15)
  | .slbie _ => .slbie (ifield w 16 5)
  | .slbia => .slbia
  | .slbmte _ _ => .slbmte (ifield w 6 5) (ifield w 16 5)
  | .slbmfev _ _ => .slbmfev (ifield w 6 5) (ifield w 16 5)
  | .slbmfee _ _ => .slbmfee (ifield w 6 5) (ifield w 16 5)
  | .tlbie _ _ => .tlbie (ifield w 16 5) (ibit w 10)
  | .tlbiel _ _ => .tlbiel (ifield w 16 5) (ibit w 10)
  | .tlbia => .tlbia
  | .tlbsync => .tlbsync
  | .lq _ _ _ => .lq (ifield w 6 5) (ifield w 16 12) (ifield w 11 5)
  | .stq _ _ _ => .stq (ifield w 6 5) (ifield w 16 14) (ifield w 11 5)
  | .mtsr _ _ => .mtsr (ifield w 12 4) (ifield w 6 5)
  | .mtsrin _ _ => .mtsrin (ifield w 6 5) (ifield w 16 5)
  | .mfsr _ _ => .mfsr (ifield w 6 5) (ifield w 12 4)
  | .mfsrin _ _ => .mfsrin (ifield w 6 5) (ifield w 16 5)
  | .ptesync => .ptesync

namespace Instr

theorem readFrom_readFrom (v w : Half) (i : Instr) : (i.readFrom w).readFrom v = i.readFrom v := by
  cases i <;> rfl

theorem rowMatch_readFrom (w : Half) (i : Instr) : (i.readFrom w).rowMatch = i.rowMatch := by
  cases i <;> rfl

/-- Each operand of an encoded instruction is one of the fields that `encode` puts together. -/
theorem readFrom_encode (i : Instr) : i.readFrom (encode i) = i := by
  cases i with
  | sc _ =>
    simp only [readFrom, encode, ibit, bit1, BitVec.getLsbD_append, BitVec.getLsbD_ofBool, Nat.reduceSub, Nat.reduceLT,
      decide_true, Bool.true_and, ↓reduceIte]
  | mtspr _ _ | mfspr _ _ | lq _ _ _ | stq _ _ _ =>
    simp (disch := omega) only [readFrom, encode, ifield, BitVec.extractLsb'_append_eq_of_le,
      BitVec.extractLsb'_append_eq_of_add_le, Nat.reduceSub, BitVec.extractLsb'_eq_self, swapHalves_swapHalves]
  | _ =>
    simp only [readFrom, encode, ifield_xform, ibit_10, ibit_15, ifield_12, lastBit_bit1,
      BitVec.extractLsb'_append_eq_right]

end Instr

/-- The X-form word of fields that are those of `w`, each under a mask. -/
theorem xform_eq_or {w : Half} {f6 f11 f16 m6 m11 m16 : BitVec 5} {xo : BitVec 10} {pattern bits : Half}
    (h6 : f6 = ifield w 6 5 &&& m6) (h11 : f11 = ifield w 11 5 &&& m11) (h16 : f16 = ifield w 16 5 &&& m16)
    (hpattern : pattern = 31#6 ++ 0#15 ++ xo ++ 0#1) (hbits : bits = 0#6 ++ m6 ++ m11 ++ m16 ++ 0#11) :
    xform f6 f11 f16 xo = pattern ||| (w &&& bits) := by
  rw [h6, h11, h16, hpattern, hbits]
  refine BitVec.eq_of_getLsbD_eq fun k hk => ?_
  simp only [xform, ifield, BitVec.getLsbD_and, BitVec.getLsbD_or, BitVec.getLsbD_append, BitVec.getLsbD_extractLsb']
  interval_cases k <;> simp

theorem Instr.encode_readFrom (w : Half) (i : Instr) : encode (i.readFrom w) = i.rowMatch ||| (w &&& i.operandBits) := by
  have hall (f : BitVec 5) : f = f &&& 31 := (BitVec.and_allOnes (x := f)).symm
  have hnone (f : BitVec 5) : 0 = f &&& 0 := BitVec.and_zero.symm
  cases i with
  | rfid | hrfid | slbia | tlbia | tlbsync | ptesync =>
    show _ = _ ||| (w &&& 0#32)
    rw [BitVec.and_zero]
    rfl
  | sc _ | mtspr _ _ | mfspr _ _ | lq _ _ _ | stq _ _ _ =>
    refine BitVec.eq_of_getLsbD_eq fun k hk => ?_
    simp only [readFrom, encode, rowMatch, operandBits, swapHalves_swapHalves, ifield, ibit, bit1, BitVec.getLsbD_and,
      BitVec.getLsbD_or, BitVec.getLsbD_append, BitVec.getLsbD_extractLsb', BitVec.getLsbD_ofBool]
    interval_cases k <;> simp
  | mfmsr _ => exact xform_eq_or (hall _) (hnone _) (hnone _) rfl rfl
  | slbie _ => exact xform_eq_or (hnone _) (hnone _) (hall _) rfl rfl
  | slbmte _ _ | slbmfev _ _ | slbmfee _ _ | mtsrin _ _ | mfsrin _ _ => exact xform_eq_or (hall _) (hnone _) (hall _) rfl rfl
  | mtmsrd _ _ | mtmsr _ _ =>
    exact xform_eq_or (hall _) (ibit_15 w ▸ bit1_lastBit _) (hnone _) rfl rfl
  | tlbie _ _ | tlbiel _ _ =>
    exact xform_eq_or (ibit_10 w ▸ bit1_lastBit _) (hnone _) (hall _) rfl rfl
  | mtsr _ _ | mfsr _ _ =>
    exact xform_eq_or (hall _) (ifield_12 w ▸ append_low4 _) (hnone _) rfl rfl

/-- The operands depend on nothing but the operand bits, since encoding keeps those and gives the operands back. -/
theorem Instr.readFrom_congr {v w : Half} {i : Instr} (h : v &&& i.operandBits = w &&& i.operandBits) :
    i.readFrom v = i.readFrom w := by
  have hback (u : Half) : i.readFrom (encode (i.readFrom u)) = i.readFrom u :=
    (readFrom_readFrom _ u i).symm.trans (readFrom_encode _)
  have hencode : encode (i.readFrom v) = encode (i.readFrom w) := by rw [encode_readFrom, encode_readFrom, h]
  rw [← hback v, hencode, hback w]

/-! ### The decoder (R282, R291, R292) -/

section Decoder

variable {w : Half} {i : Instr}

theorem decode19_ok (hprimary : ifield w 0 6 = 19) (h : decode19 w = .ok i) : i.OpcodesIn w ∧ i.readFrom w = i := by
  unfold decode19 at h
  split at h <;> cases h <;> exact ⟨⟨hprimary, BitVec.eq_of_toNat_eq ‹_›⟩, rfl⟩

theorem decode31_ok (hprimary : ifield w 0 6 = 31) (h : decode31 w = .ok i) : i.OpcodesIn w ∧ i.readFrom w = i := by
  unfold decode31 at h
  split at h
  case h_19 hextended =>
    split at h <;> cases h
    exact ⟨⟨hprimary, ‹_›, BitVec.eq_of_toNat_eq hextended⟩, rfl⟩
  case h_20 => cases h
  all_goals
    cases h
    exact ⟨⟨hprimary, BitVec.eq_of_toNat_eq ‹_›⟩, rfl⟩

theorem decode_ok (h : decode w = .ok i) : i.OpcodesIn w ∧ i.readFrom w = i := by
  unfold decode at h
  split at h
  case h_1 hprimary =>
    split at h <;> cases h
    exact ⟨⟨BitVec.eq_of_toNat_eq hprimary, ‹_›⟩, rfl⟩
  case h_2 hprimary => exact decode19_ok (BitVec.eq_of_toNat_eq hprimary) h
  case h_3 hprimary => exact decode31_ok (BitVec.eq_of_toNat_eq hprimary) h
  case h_4 hprimary =>
    cases h
    exact ⟨BitVec.eq_of_toNat_eq hprimary, rfl⟩
  case h_5 hprimary =>
    split at h <;> cases h
    exact ⟨⟨BitVec.eq_of_toNat_eq hprimary, ‹_›⟩, rfl⟩
  case h_6 => cases h

theorem decode_of_opcodesIn (h : i.OpcodesIn w) : decode w = .ok (i.readFrom w) := by
  cases i with
  | lq _ _ _ =>
    have hprimary : ifield w 0 6 = 56 := h
    rw [decode, hprimary]
    rfl
  | ptesync =>
    obtain ⟨hprimary, hl, hextended⟩ := h
    simp only [decode, decode31, hprimary, hextended, hl]
    rfl
  | _ =>
    obtain ⟨hprimary, hextended⟩ := h
    simp only [decode, decode19, decode31, hprimary, hextended]
    rfl

theorem decode_eq_ok_iff : decode w = .ok i ↔ w &&& i.rowMask = i.rowMatch ∧ i.readFrom w = i := by
  rw [matchesRow_iff]
  constructor
  · exact decode_ok
  · rintro ⟨hopcodes, hread⟩
    rw [decode_of_opcodesIn hopcodes, hread]

end Decoder

/-! ### The statements -/

/-- Settles O1: the word matches the row of the instruction, and its operand fields hold the operands. -/
theorem decodeEncode : Obligations.DecodeEncode := fun i =>
  decode_eq_ok_iff.mpr ⟨encode_matchesRow i, i.readFrom_encode⟩

/-- Settles O2: a word decodes to the operands of the row that it matches; reserved bits are neither opcode nor operand, and
encoding writes the opcodes and the operand bits alone. -/
theorem wordsMatchTheirRow : Obligations.WordsMatchTheirRow := by
  refine ⟨fun w i h => (decode_eq_ok_iff.mp h).1, fun w i h => ?_, fun w r i h => ?_, fun w i h => ?_⟩
  · exact ⟨i.readFrom w, decode_of_opcodesIn ((matchesRow_iff w i).mp h), i.rowMatch_readFrom w⟩
  · obtain ⟨hrow, hread⟩ := decode_eq_ok_iff.mp h
    have hrowSame : (w ^^^ (r &&& ~~~i.usedBits)) &&& i.rowMask = w &&& i.rowMask := xor_unused_and _ _ _ _
    have hoperands : (w ^^^ (r &&& ~~~i.usedBits)) &&& i.operandBits = w &&& i.operandBits := by
      rw [Instr.usedBits, BitVec.or_comm, xor_unused_and]
    exact decode_eq_ok_iff.mpr ⟨hrowSame.trans hrow, (Instr.readFrom_congr hoperands).trans hread⟩
  · obtain ⟨hrow, hread⟩ := decode_eq_ok_iff.mp h
    calc encode i = i.rowMatch ||| (w &&& i.operandBits) := by rw [← Instr.encode_readFrom, hread]
      _ = w &&& i.usedBits := by rw [← hrow, ← BitVec.and_or_distrib_left, Instr.usedBits]

theorem decodeTableWord_encode (i : Instr) : decodeTableWord 32 (encode i).toNat = some i := by
  have hword : BitVec.ofNat 32 ((encode i).toNat % 2 ^ 32) = encode i := by
    rw [Nat.mod_eq_of_lt (encode i).isLt, BitVec.ofNat_toNat, BitVec.setWidth_eq]
  rw [decodeTableWord, hword, bytesOfWord, decodeBytes, wordOfBytes_extract, decodeEncode i]
  rfl

/-- Settles O3: each word is the encoding of its instruction, so that O1 decodes it. -/
theorem specWordsDecode : Obligations.SpecWordsDecode :=
  ⟨decodeTableWord_encode (.sc true), decodeTableWord_encode .rfid, decodeTableWord_encode (.mfspr 3 8),
    decodeTableWord_encode (.mtmsrd 3 true), decodeTableWord_encode (.slbmte 4 3), decodeTableWord_encode (.tlbie 3 true),
    decodeTableWord_encode (.lq 4 1 6), decodeTableWord_encode (.stq 4 0x3FFC 6), decodeTableWord_encode (.mtsr 15 3),
    decodeTableWord_encode .ptesync⟩

end Sys2Proof
end

section
/-! PROOFS. Instructions that take a Program interrupt instead of their effect (O14, O15): the privileged ones, those of hypervisor
state, and those that the implementation does not provide. -/

namespace Sys2Proof.Machine

/-! ### The order of the tests (R300, R302) -/

/-- Every instruction answers to the option first. -/
theorem exec_optional (i : Instr) (s : State) : ∃ f, exec i s = s.optional (i.isProvided s.cfg) f := by
  cases i with
  | tlbie _ _ => exact ⟨_, congrArg (s.optional · _) (Bool.and_true _)⟩
  | _ => exact ⟨_, rfl⟩

/-- A privileged instruction answers to the option, then to the privilege state. -/
theorem exec_privileged {i : Instr} (h : i.isPrivileged = true) (s : State) :
    ∃ f, exec i s = s.optional (i.isProvided s.cfg) (s.privileged f) := by
  cases i with
  | sc _ | hrfid | mtspr _ _ | mfspr _ _ | tlbie _ _ | tlbiel _ _ | tlbia | tlbsync | ptesync => cases h
  | _ => exact ⟨_, rfl⟩

theorem exec_hypervisorOnly {i : Instr} (h : i.isHypervisor = true) (s : State) :
    ∃ f, exec i s = s.optional (i.isProvided s.cfg) (s.hypervisorOnly f) := by
  cases i with
  | hrfid | tlbiel _ _ | tlbia | tlbsync => exact ⟨_, rfl⟩
  | tlbie _ _ => exact ⟨_, congrArg (s.optional · _) (Bool.and_true _)⟩
  | _ => cases h

/-- Settles O14: behind the option, the privilege test comes before every other test and the effect. -/
theorem privilegedInstructionTraps : Obligations.PrivilegedInstructionTraps := by
  refine ⟨fun i s hi hprovided hproblem => ?_, fun i s hi hprovided hhypervisor => ?_⟩
  · obtain ⟨f, hexec⟩ := exec_privileged hi s
    rw [hexec, hprovided, State.optional, if_pos rfl, State.privileged_of_problem f hproblem]
    exact s.raise_eq .privileged
  · obtain ⟨f, hexec⟩ := exec_hypervisorOnly hi s
    rw [hexec, hprovided, State.optional, if_pos rfl, State.hypervisorOnly, hhypervisor]
    exact s.raise_eq .privileged

/-- Settles O15: the option is tested before everything else. -/
theorem absentInstructionIsIllegal : Obligations.AbsentInstructionIsIllegal := by
  intro i s habsent
  obtain ⟨f, hexec⟩ := exec_optional i s
  rw [hexec, habsent]
  exact s.raise_eq .illegal

end Sys2Proof.Machine
end

section
/-! PROOFS. System linkage: what `sc` saves and sets (O30), and the MSR that `rfid` (O31) and `hrfid` (O32) restore, bit by bit. -/

namespace Sys2Proof.Machine

/-! ### The MSR after a System Call interrupt (R452, R453) -/

theorem bitIf_bit (x : Word) (i : Nat) : bitIf i (bit x i) = x &&& mask i i := by
  have hone : mask i i = BitVec.twoPow 64 (63 - i) := by simp [mask, BitVec.twoPow_eq]
  rw [hone, BitVec.and_twoPow, ← hone]
  rfl

theorem bitIf_or_bit (b : Bool) (x : Word) (i : Nat) :
    bitIf i (b || bit x i) = if b then mask i i else x &&& mask i i := by
  cases b
  · exact bitIf_bit x i
  · rfl

/-- The rows of Figure 35 that leave ME as it is and set RI to 0, as masks of the MSR. -/
theorem newMsr_of_ordinary (c : Params) (lpcr old : Word) {k : IntKind} (hme : k ≠ .machineCheck) (hri : k ≠ .hypDecrementer) :
    newMsr c lpcr k old = 0x8000000000000000
      ||| (if setsHv lpcr k then 0x1000000000000000 else old &&& 0x1000000000000000)
      ||| (old &&& 0x1000)
      ||| (if c.hasLe && !setsHv lpcr k && ile lpcr then 1 else 0) := by
  have hhv := bitIf_or_bit (setsHv lpcr k) old 3
  have hme_kept : bitIf 51 (k != .machineCheck && me old) = old &&& mask 51 51 := by
    rw [bne_iff_ne.mpr hme, Bool.true_and, me, bitIf_bit]
  have hri_zero : bitIf 62 (k == .hypDecrementer && ri old) = 0#64 := by
    rw [beq_eq_false_iff_ne.mpr hri]
    rfl
  rw [newMsr, hv, hhv, hme_kept, hri_zero, BitVec.or_zero]
  rfl

/-- Settles O30: a System Call interrupt has no information bits, and its row of Figure 35 is `newMsr_of_ordinary`. -/
theorem scTakesSystemCall : Obligations.ScTakesSystemCall := by
  intro lev s
  have hmsr := newMsr_of_ordinary s.cfg s.spr.lpcr s.msr (k := .systemCall lev) nofun nofun
  have hexec : exec (.sc lev) s = .next { s with
      nia := 0xC00, msr := newMsr s.cfg s.spr.lpcr (.systemCall lev) s.msr
      spr := { s.spr with srr0 := ea32 s.msr (s.cia + 4), srr1 := srr1Of s.msr 0 }
      run := { s.run with trapped := true } } := rfl
  rw [hexec, hmsr, srr1Of_zero]
  rfl

/-! ### The MSR that a return from interrupt restores (R321, R322) -/

theorem bit_not (x : Word) {i : Nat} (hi : i < 64) : bit (~~~x) i = !bit x i := by
  simp [bit, show 63 - i < 64 by omega]

/-- No bit that carries information in SRR1 or HSRR1 is a bit of the MSR (R36, R450). -/
theorem msrMask_and_infoMask (c : Params) : msrMask c &&& infoMask = 0 := by
  unfold msrMask
  split_ifs <;> decide

/-- Inserting all but the information bits and those of `k` copies every MSR bit outside `k`. -/
theorem bit_insertBits_of_msrMask {c : Params} {k : Word} {i : Nat} (d x : Word) (hi : i < 64) (hstate : bit (msrMask c) i = true)
    (hk : bit k i = false) : bit (insertBits d x (~~~(infoMask ||| k))) i = bit x i := by
  have hinfo : bit infoMask i = false := by
    have hnone := bit_and (msrMask c) infoMask i
    rw [msrMask_and_infoMask, hstate, Bool.true_and] at hnone
    exact hnone.symm.trans BitVec.getLsbD_zero
  rw [bit_insertBits _ _ _ hi, bit_not _ hi, bit_or, hinfo, hk]
  rfl

theorem bit_rfidMsr (c : Params) (old x : Word) {i : Nat} (hi : i < 64) : bit (rfidMsr c old x) i = (bit (msrMask c) i &&
    (if i = 0 then bit x 0 || bit x 1
     else if i = 3 then bit old 3 && bit x 3
     else if i = 48 ∨ i = 58 ∨ i = 59 then bit x i || bit x 49
     else if i = 51 then (if bit old 3 then bit x 51 else bit old 51)
     else bit x i)) := by
  have hcopied : mask 1 2 ||| mask 4 32 ||| mask 37 41 ||| mask 49 50 ||| mask 52 57 ||| mask 60 63 =
      ~~~(infoMask ||| (mask 0 0 ||| mask 3 3 ||| mask 48 48 ||| mask 51 51 ||| mask 58 58 ||| mask 59 59)) := by decide
  rw [rfidMsr, bit_and, Bool.and_comm, bit_forceBits _ _ hi, bit_setBit _ _ (by decide) hi, bit_setBit _ _ (by decide) hi,
    bit_setBit _ _ (by decide) hi, hcopied]
  cases hstate : bit (msrMask c) i with
  | false => rfl
  | true =>
    by_cases hown : i = 0 ∨ i = 3 ∨ i = 48 ∨ i = 51 ∨ i = 58 ∨ i = 59
    · obtain rfl | rfl | rfl | rfl | rfl | rfl := hown <;> rfl
    · simp only [not_or] at hown
      obtain ⟨h0, h3, h48, h51, h58, h59⟩ := hown
      rw [bit_insertBits_of_msrMask _ _ hi hstate (by simp [bit_or, bit_mask_self, Ne.symm, *])]
      simp [Ne.symm, *]

theorem bit_hrfidMsr (c : Params) (old x : Word) {i : Nat} (hi : i < 64) : bit (hrfidMsr c old x) i = (bit (msrMask c) i &&
    (if i = 0 then bit x 0 || bit x 1
     else if i = 48 ∨ i = 58 ∨ i = 59 then bit x i || bit x 49
     else bit x i)) := by
  have hcopied : mask 1 32 ||| mask 37 41 ||| mask 49 57 ||| mask 60 63 =
      ~~~(infoMask ||| (mask 0 0 ||| mask 48 48 ||| mask 58 58 ||| mask 59 59)) := by decide
  rw [hrfidMsr, bit_and, Bool.and_comm, bit_forceBits _ _ hi, bit_setBit _ _ (by decide) hi, hcopied]
  cases hstate : bit (msrMask c) i with
  | false => rfl
  | true =>
    by_cases hown : i = 0 ∨ i = 48 ∨ i = 58 ∨ i = 59
    · obtain rfl | rfl | rfl | rfl := hown <;> rfl
    · simp only [not_or] at hown
      obtain ⟨h0, h48, h58, h59⟩ := hown
      rw [bit_insertBits_of_msrMask _ _ hi hstate (by simp [bit_or, bit_mask_self, Ne.symm, *])]
      simp [Ne.symm, *]

/-- Settles O31: the MSR is that of `bit_rfidMsr`. -/
theorem rfidRestores : Obligations.RfidRestores := fun s hproblem =>
  ⟨rfidMsr s.cfg s.msr s.spr.srr1, State.privileged_of_not_problem _ hproblem, fun _ hi => bit_rfidMsr s.cfg s.msr s.spr.srr1 hi⟩

/-- Settles O32: the MSR is that of `bit_hrfidMsr`. -/
theorem hrfidRestores : Obligations.HrfidRestores := fun s hhypervisor =>
  ⟨hrfidMsr s.cfg s.msr s.spr.hsrr1, if_pos hhypervisor, fun _ hi => bit_hrfidMsr s.cfg s.msr s.spr.hsrr1 hi⟩

end Sys2Proof.Machine
end

section
/-! PROOFS. `mfmsr` (O35) and `mtmsr` (O34): the MSR copied, and the MSR it writes, bit by bit. -/

namespace Sys2Proof.Machine

/-- Settles O35: outside problem state only the privilege test stands before the copy; inside it O14 tells. -/
theorem mfmsrCopiesMsr : Obligations.MfmsrCopiesMsr := fun rt s =>
  ⟨fun hproblem => State.privileged_of_not_problem _ hproblem,
    fun hproblem => privilegedInstructionTraps.1 (.mfmsr rt) s rfl rfl hproblem⟩

/-! ### The MSR that `mtmsr` writes (R346) -/

/-- With L=0 `mtmsr` copies every bit of the low-order word but ME and the three that PR forces. -/
theorem bit_mtmsr_mask : ∀ i < 64, bit (mask 32 47 ||| mask 49 50 ||| mask 52 57 ||| mask 60 63) i =
    decide (¬(i < 32 ∨ i = 51) ∧ ¬(i = 48 ∨ i = 58 ∨ i = 59)) := by decide

theorem bit_mtmsrMsr (c : Params) (old r : Word) {i : Nat} (hi : i < 64) : bit (mtmsrMsr c old r) i = (bit (msrMask c) i &&
    (if i < 32 ∨ i = 51 then bit old i
     else if i = 48 ∨ i = 58 ∨ i = 59 then bit r i || bit r 49
     else bit r i)) := by
  rw [mtmsrMsr, bit_and, Bool.and_comm, bit_forceBits _ _ hi, bit_insertBits _ _ _ hi, bit_mtmsr_mask i hi]
  congr 1
  by_cases hkept : i < 32 ∨ i = 51
  · have hunforced : ¬(i = 48 ∨ i = 58 ∨ i = 59) := by omega
    simp [hkept, hunforced]
  · by_cases hforced : i = 48 ∨ i = 58 ∨ i = 59
    · rw [if_pos hforced, if_neg hkept, if_pos hforced]
    · simp [hkept, hforced]

theorem exec_mtmsr {s : State} (rs : Reg) (hprovided : s.cfg.hasMtmsr = true) (hproblem : s.problem = false) :
    exec (.mtmsr rs false) s = s.alter (s.withMsr (mtmsrMsr s.cfg s.msr (s.readGpr rs)))
      ∧ exec (.mtmsr rs true) s = .next (s.withMsr (mtmsrL1 s.msr (s.readGpr rs))) :=
  ⟨(if_pos hprovided).trans (State.privileged_of_not_problem _ hproblem),
    (if_pos hprovided).trans (State.privileged_of_not_problem _ hproblem)⟩

/-- Settles O34: the MSR is that of `bit_mtmsrMsr` or `bit_mtmsrL1`, and only an implicit branch stops the move. -/
theorem mtmsrMovesMsr : Obligations.MtmsrMovesMsr := by
  intro rs s hprovided hproblem
  obtain ⟨hexec, hexec1⟩ := exec_mtmsr rs hprovided hproblem
  rw [hexec, hexec1]
  exact ⟨⟨_, fun i hi => bit_mtmsrMsr s.cfg s.msr (s.readGpr rs) hi,
      fun hbranch => State.alter_next.mpr ⟨implicitBranch_eq_false.mpr hbranch, rfl⟩⟩,
    _, rfl, fun i hi => bit_mtmsrL1 _ _ hi⟩

end Sys2Proof.Machine
end

section
/-! PROOFS. Problem state (O12): what each instruction does there. -/

namespace Sys2Proof.Machine

/-! ### The ways in which an instruction ends in problem state -/

/-- What the instruction answers in problem state: it completes, takes a Program or a System Call interrupt, or names an SPR number
whose results the policy `alternative` leaves undefined (R34, R302, R342). -/
inductive ProblemAnswer (i : Instr) (s : State) : Result → Prop where
  | completes {t : State} (same : s.sameProtected t) (msr : t.msr = s.msr) (spr : t.spr = s.spr) (nia : t.nia = s.cia + 4) :
      ProblemAnswer i s (.next t)
  | program (cause : Word) : ProblemAnswer i s (.next (s.programInterrupt cause))
  | systemCall (lev : Bool) (instr : i = .sc lev) :
      ProblemAnswer i s (.next (s.takeInterrupt (.systemCall lev) (s.cia + 4) 0))
  | undefinedSpr (n : BitVec 10) (r : Reg) (policy : s.cfg.badSprPolicy = .alternative) (instr : i = .mtspr n r ∨ i = .mfspr r n)
      (unprivileged : n.getLsbD 4 = false) : ProblemAnswer i s (.refused .undefinedSpr)

/-- The registers that a program in problem state, or an interrupt that it takes, may alter; the rest is protected. -/
theorem State.sameProtected_of_own (s : State) {gpr : Vector Word 32} {nia msr xer lr ctr srr0 srr1 : Word} {run : Run} :
    s.sameProtected { s with
      gpr := gpr, nia := nia, msr := msr, run := run
      bookI := { s.bookI with xer := xer, lr := lr, ctr := ctr }
      spr := { s.spr with srr0 := srr0, srr1 := srr1 } } :=
  ⟨rfl, rfl, rfl, rfl, rfl, rfl, rfl, rfl, rfl, rfl, rfl, rfl⟩

section Answers

variable {i : Instr} {s : State}

theorem not_hypervisor_of_problem (hproblem : s.problem = true) : s.hypervisor = false := by
  rw [State.problem] at hproblem
  rw [State.hypervisor, hproblem, Bool.not_true, Bool.and_false]

/-- An instruction of the privilege columns P and H: absent it is illegal (O15), present it is privileged (O14). -/
theorem exec_restricted_answer (hproblem : s.problem = true) (hi : i.isPrivileged = true ∨ i.isHypervisor = true) :
    ProblemAnswer i s (exec i s) := by
  cases hprovided : i.isProvided s.cfg with
  | false =>
    rw [absentInstructionIsIllegal i s hprovided]
    exact .program _
  | true =>
    obtain hi | hi := hi
    · rw [privilegedInstructionTraps.1 i s hi hprovided hproblem]
      exact .program _
    · rw [privilegedInstructionTraps.2 i s hi hprovided (not_hypervisor_of_problem hproblem)]
      exact .program _

theorem undefinedSpr_answer (hproblem : s.problem = true) {n : BitVec 10} {r : Reg}
    (hi : i = .mtspr n r ∨ i = .mfspr r n) : ProblemAnswer i s (s.undefinedSpr n) := by
  rw [State.undefinedSpr_eq, hproblem, Bool.and_true]
  cases hpolicy : s.cfg.badSprPolicy with
  | illegal => exact .program _
  | byCase =>
    dsimp only
    split <;> exact .program _
  | alternative =>
    dsimp only
    split
    · exact .program _
    · exact .undefinedSpr n r hpolicy hi (eq_false_of_ne_true ‹_›)

theorem sprPrivilege_answer (hproblem : s.problem = true) {p : Privilege} {f : Result}
    (hf : p = .no → ProblemAnswer i s f) : ProblemAnswer i s (s.sprPrivilege p f) := by
  by_cases hp : p = .no
  · subst hp
    exact hf rfl
  · rw [State.sprPrivilege_of_problem hproblem hp]
    exact .program _

/-- XER, LR and CTR are all that a program may write (R66). -/
theorem moveToSpr_answer {r : Spr} (hr : r.writePrivilege = .no) (v : Word) : ProblemAnswer i s (s.moveToSpr r v) := by
  cases r with
  | xer | lr | ctr => exact .completes s.sameProtected_of_own rfl rfl rfl
  | _ => cases hr

theorem exec_mtspr_answer (hproblem : s.problem = true) (n : BitVec 10) (rs : Reg) :
    ProblemAnswer (.mtspr n rs) s (exec (.mtspr n rs) s) := by
  cases hn : sprForWrite s.cfg n with
  | none =>
    rw [exec_mtspr, execMtspr, hn]
    exact undefinedSpr_answer hproblem (.inl rfl)
  | some x =>
    rw [exec_mtspr_of_sprForWrite hn]
    exact sprPrivilege_answer hproblem fun hp => moveToSpr_answer ((sprForWrite_privilege hn).trans hp) _

theorem exec_mfspr_answer (hproblem : s.problem = true) (rt : Reg) (n : BitVec 10) :
    ProblemAnswer (.mfspr rt n) s (exec (.mfspr rt n) s) := by
  cases hn : sprForRead s.cfg n with
  | none =>
    rw [exec_mfspr, execMfspr, hn]
    exact undefinedSpr_answer hproblem (.inr rfl)
  | some x =>
    rw [exec_mfspr_of_sprForRead hn]
    exact sprPrivilege_answer hproblem fun _ => .completes s.sameProtected_of_own rfl rfl rfl

end Answers

/-- The instructions outside the privilege columns P and H are `sc`, `ptesync` and the moves to and from an SPR. -/
theorem exec_answer_of_problem (i : Instr) {s : State} (hproblem : s.problem = true) : ProblemAnswer i s (exec i s) := by
  cases i with
  | sc lev => exact .systemCall lev rfl
  | mtspr n rs => exact exec_mtspr_answer hproblem n rs
  | mfspr rt n => exact exec_mfspr_answer hproblem rt n
  | ptesync => exact .completes s.sameProtected_of_own rfl rfl rfl
  | hrfid | tlbie _ _ | tlbiel _ _ | tlbia | tlbsync => exact exec_restricted_answer hproblem (.inr rfl)
  | _ => exact exec_restricted_answer hproblem (.inl rfl)

/-- Settles O12: each of the four answers is one of the statement's. -/
theorem problemStateConfined : Obligations.ProblemStateConfined := by
  intro i s hproblem
  have hanswer := exec_answer_of_problem i hproblem
  generalize exec i s = answer at hanswer ⊢
  cases hanswer with
  | completes same msr spr nia => exact .inl ⟨_, rfl, same, .inl ⟨msr, spr, nia⟩⟩
  | program cause =>
    exact .inl ⟨_, rfl, s.sameProtected_of_own, .inr ⟨.program, ⟨rfl, rfl⟩, rfl, rfl, .inl rfl⟩⟩
  | systemCall lev instr =>
    exact .inl ⟨_, rfl, s.sameProtected_of_own,
      .inr ⟨.systemCall lev, ⟨rfl, rfl⟩, rfl, rfl, .inr ⟨lev, rfl, instr⟩⟩⟩
  | undefinedSpr n r policy instr unprivileged => exact .inr ⟨policy, rfl, n, r, instr, unprivileged⟩

end Sys2Proof.Machine
end

section
/-! PROOFS. Moves to and from the SLB: `slbmte` (O44), `slbmfev` and `slbmfee` (O45), and what `slbmte` wrote read back (O46). -/

namespace Sys2Proof.Machine

/-! ### Words cut in two -/

theorem and_append_eq {m n : Nat} (x : BitVec (m + n)) (y : BitVec m) (z : BitVec n) :
    x &&& (y ++ z) = (x.extractLsb' n m &&& y) ++ (x.extractLsb' 0 n &&& z) := by
  rw [← BitVec.and_append, BitVec.extractLsb'_append_extractLsb']

/-- Clearing the `n` low-order bits keeps the upper part. -/
theorem and_allOnes_append_zero {m n : Nat} (x : BitVec (m + n)) :
    x &&& (BitVec.allOnes m ++ 0#n) = x.extractLsb' n m ++ 0#n := by
  rw [and_append_eq, BitVec.and_allOnes, BitVec.and_zero]

theorem bit1_getLsbD {w : Nat} (x : BitVec w) (k : Nat) : bit1 (x.getLsbD k) = x.extractLsb' k 1 := by
  refine BitVec.eq_of_getLsbD_eq fun i hi => ?_
  obtain rfl : i = 0 := by omega
  simp [bit1]

theorem and_eq_self_of_and_not {w : Nat} {x m : BitVec w} (h : x &&& ~~~m = 0) : x &&& m = x := by
  have hbits := and_not_eq_zero_iff.mp h
  refine BitVec.eq_of_getLsbD_eq fun i _ => ?_
  rw [BitVec.getLsbD_and]
  cases hx : x.getLsbD i with
  | true => simp [hbits i hx]
  | false => simp

/-- The word in which RB holds an index: bits 0:51 zero (R374, R375). -/
theorem and_index (b : Word) : b &&& 0xFFF = 0#52 ++ field b 52 12 := by
  have hmask : (0xFFF : Word) = 0#52 ++ BitVec.allOnes 12 := by decide
  have hcut := and_append_eq (m := 52) b 0#52 (BitVec.allOnes 12)
  rwa [BitVec.and_allOnes, BitVec.and_zero, ← hmask] at hcut

theorem ofNat_eq_index {i : Nat} (hi : i < 4096) : BitVec.ofNat 64 i = 0#52 ++ BitVec.ofNat 12 i := by
  apply BitVec.eq_of_toNat_eq
  rw [toNat_append_eq, BitVec.toNat_ofNat, BitVec.toNat_ofNat, BitVec.toNat_ofNat]
  omega

/-! ### The images of an entry (R373 to R375) -/

/-- RS has no VSID bit beyond the virtual address when its value is below 2^(n-16). -/
theorem and_not_vsidMask (c : Params) {a : Word} (ha : a.toNat < 2 ^ (c.virtualBits - 16)) : a &&& ~~~vsidMask c = 0 := by
  by_cases hn : c.virtualBits - 16 < 64
  · have hkept : a &&& vsidMask c = a :=
      BitVec.eq_of_toNat_eq ((and_lowMask_toNat a hn).trans (Nat.mod_eq_of_lt ha))
    rw [← hkept, masked_and_not]
  · have hall : vsidMask c = BitVec.allOnes 64 := by
      rw [vsidMask, BitVec.shiftLeft_eq_zero (Nat.le_of_not_lt hn)]
      decide
    rw [hall, BitVec.not_allOnes]
    exact BitVec.and_zero

/-- The VSID image of the entry that RS gives is RS, when RS has no bit that an entry cannot hold. -/
theorem SlbEntry.vsidImage_ofRegisters {c : Params} {a : Word} (b : Word) (hlow : a &&& mask 57 63 = 0)
    (hhigh : a &&& ~~~vsidMask c = 0) : (SlbEntry.ofRegisters a b).vsidImage c = a := by
  have hfields : field a 0 52 ++ bit1 (bit a 52) ++ bit1 (bit a 53) ++ bit1 (bit a 54) ++ bit1 (bit a 55) ++ bit1 (bit a 56)
      = a.extractLsb' 7 57 := by
    simp only [field, bit, bit1_getLsbD, Nat.reduceSub]
    rw [BitVec.extractLsb'_append_extractLsb'_eq_extractLsb' (by rfl), BitVec.extractLsb'_append_extractLsb'_eq_extractLsb' (by rfl),
      BitVec.extractLsb'_append_extractLsb'_eq_extractLsb' (by rfl), BitVec.extractLsb'_append_extractLsb'_eq_extractLsb' (by rfl),
      BitVec.extractLsb'_append_extractLsb'_eq_extractLsb' (by rfl)]
  have hnot : ~~~(BitVec.allOnes 57 ++ 0#7) = mask 57 63 := by decide
  have hcut : a.extractLsb' 7 57 ++ 0#7 = a := by
    rw [← and_allOnes_append_zero (m := 57)]
    exact and_eq_self_of_and_not (by rwa [hnot])
  calc (SlbEntry.ofRegisters a b).vsidImage c
      = (a.extractLsb' 7 57 ++ 0#7) &&& vsidMask c := by rw [← hfields]; rfl
    _ = a &&& vsidMask c := by rw [hcut]
    _ = a := and_eq_self_of_and_not hhigh

/-- The ESID image of the entry that RB gives is RB without bits 37:63. -/
theorem SlbEntry.esidImage_ofRegisters (a b : Word) : (SlbEntry.ofRegisters a b).esidImage = b &&& ~~~0x7FFFFFF := by
  have hmask : ~~~(0x7FFFFFF : Word) = BitVec.allOnes 37 ++ 0#27 := by decide
  have hfields : field b 0 36 ++ bit1 (bit b 36) = b.extractLsb' 27 37 := by
    rw [bit, bit1_getLsbD, field, BitVec.extractLsb'_append_extractLsb'_eq_extractLsb' (by rfl)]
  calc (SlbEntry.ofRegisters a b).esidImage
      = b.extractLsb' 27 37 ++ 0#27 := by rw [← hfields]; rfl
    _ = b &&& ~~~0x7FFFFFF := by rw [hmask, and_allOnes_append_zero (m := 37) (n := 27) b]

/-! ### `slbmte` (R373) -/

theorem State.slbEntry_setSlbEntry_same {s : State} {i : Nat} (e : SlbEntry) (hi : i < s.slb.length) :
    (s.setSlbEntry i e).slbEntry i = e := by
  rw [State.slbEntry, State.setSlbEntry_slb, List.getD_eq_getElem?_getD, List.getElem?_set_self hi]
  rfl

/-- An ESID is mapped by the valid entries of the SLB and by what is left of displaced ones. -/
theorem State.mem_mappingsOf {s : State} {esid : BitVec 36} {x : SlbEntry} :
    x ∈ s.mappingsOf esid ↔ ((x ∈ s.slb ∧ x.v = true) ∨ x ∈ s.slbGone) ∧ x.esid = esid := by
  simp only [State.mappingsOf, State.slbOf, List.mem_append, List.mem_filter, Bool.and_eq_true, beq_iff_eq]
  rw [← and_assoc, or_and_right]

/-- What `slbmte` asks of the values `a` of RS and `b` of RB (R373, R631 note 13). -/
structure SlbmteOperands (s : State) (a b : Word) : Prop where
  rsClear : a &&& mask 57 63 = 0
  vsidInRange : a &&& ~~~vsidMask s.cfg = 0
  rbClear : b &&& mask 37 51 = 0
  index : (field b 52 12).toNat < s.slb.length
  esid : esidInMode s.msr b = true
  valid : bit b 36 = true
  pageSize : bit a 55 = true → s.cfg.largePages = true
  mapping : ∀ x ∈ s.mappingsOf (field b 0 36), x = SlbEntry.ofRegisters a b

/-- The state after `slbmte` with the values `a` of RS and `b` of RB. -/
def State.afterSlbmte (s : State) (a b : Word) : State :=
  s.advance.setSlbEntry (field b 52 12).toNat (SlbEntry.ofRegisters a b)

theorem State.length_slb_afterSlbmte (s : State) (a b : Word) : (s.afterSlbmte a b).slb.length = s.slb.length :=
  List.length_set

theorem SlbmteOperands.slbEntry_afterSlbmte {s : State} {a b : Word} (h : SlbmteOperands s a b) :
    (s.afterSlbmte a b).slbEntry (field b 52 12).toNat = SlbEntry.ofRegisters a b :=
  State.slbEntry_setSlbEntry_same (s := s.advance) _ h.index

/-- Outside problem state `slbmte` completes exactly when its operands are as the rule asks and it is no implicit branch. -/
theorem exec_slbmte_next_iff {rs rb : Reg} {s t : State} (hp : s.problem = false) :
    exec (.slbmte rs rb) s = .next t ↔ SlbmteOperands s (s.readGpr rs) (s.readGpr rb)
      ∧ s.noImplicitBranch (s.afterSlbmte (s.readGpr rs) (s.readGpr rb)) ∧ t = s.afterSlbmte (s.readGpr rs) (s.readGpr rb) := by
  show execSlbmte rs rb s = _ ↔ _
  simp only [execSlbmte, State.privileged_of_not_problem _ hp, State.slbIndex, require_next, State.alter_next,
    implicitBranch_eq_false, Bool.and_eq_true, beq_iff_eq, decide_eq_true_eq, List.all_eq_true, Bool.or_eq_true,
    Bool.not_eq_true']
  constructor
  · rintro ⟨⟨hrs, hvsid⟩, hrb, hindex, hesid, hvalid, hpage, hmapping, hbranch, ht⟩
    exact ⟨⟨hrs, hvsid, hrb, hindex, hesid, hvalid, fun hl => hpage.resolve_left (by simp [hl]), hmapping⟩, hbranch, ht⟩
  · rintro ⟨⟨hrs, hvsid, hrb, hindex, hesid, hvalid, hpage, hmapping⟩, hbranch, ht⟩
    refine ⟨⟨hrs, hvsid⟩, hrb, hindex, hesid, hvalid, ?_, hmapping, hbranch, ht⟩
    cases hl : bit (s.readGpr rs) 55 with
    | true => exact .inr (hpage hl)
    | false => exact .inl rfl

/-- Settles O44: the operands are as `SlbmteOperands` asks, and the entry is that of Figure 32. -/
theorem slbmteLoadsEntry : Obligations.SlbmteLoadsEntry := by
  intro rs rb s i hp hi a b e hrs hvsid hrb hindex hvalid hmode hpage hmapping hbranch
  have hentry : SlbEntry.ofRegisters a b = e := by
    show SlbEntry.mk _ (b.getLsbD 27) _ _ _ _ _ _ = _
    rw [hvalid]
    rfl
  have hafter : s.afterSlbmte a b = s.advance.setSlbEntry i e := by rw [← hentry, ← hindex]; rfl
  have hoperands : SlbmteOperands s a b :=
    { rsClear := hrs
      vsidInRange := and_not_vsidMask s.cfg hvsid
      rbClear := hrb
      index := hindex.trans_lt hi
      esid := by simpa [esidInMode, high] using hmode
      valid := hvalid
      pageSize := hpage
      mapping := fun x hx => by
        obtain ⟨hx, hesid⟩ := State.mem_mappingsOf.mp hx
        rw [hentry]
        exact hmapping x hx hesid }
  exact ⟨s.advance.setSlbEntry i e, (exec_slbmte_next_iff hp).mpr ⟨hoperands, hafter ▸ hbranch, hafter.symm⟩,
    State.slbEntry_setSlbEntry_same e hi, rfl⟩

/-! ### `slbmfev` and `slbmfee` (R374, R375) -/

section MoveFrom
variable {s : State} {rb : Reg} {x : BitVec 12}

theorem State.slbIndex_of_index (hx : x.toNat < s.slb.length) (f : Nat → Result) :
    s.slbIndex (0#52 ++ x) (mask 0 51) f = f x.toNat := by
  have hmask : mask 0 51 = BitVec.allOnes 52 ++ 0#12 := by decide
  have hclear : (0#52 ++ x) &&& mask 0 51 = 0 := by
    rw [hmask, BitVec.and_append, BitVec.zero_and, BitVec.and_zero]
    rfl
  have hfield : field (0#52 ++ x) 52 12 = x := BitVec.extractLsb'_append_eq_right
  rw [State.slbIndex, hfield, require_of_true (beq_iff_eq.mpr hclear), require_of_true (decide_eq_true hx)]

variable (hp : s.problem = false) (hrb : s.readGpr rb = 0#52 ++ x) (hx : x.toNat < s.slb.length)
include hp hrb hx

/-- With an index in RB, `slbmfev` takes the image of the entry, or an undefined value of an invalid one. -/
theorem exec_slbmfev (rt : Reg) : exec (.slbmfev rt rb) s =
    if (s.slbEntry x.toNat).v then .next (s.advance.setGpr rt ((s.slbEntry x.toNat).vsidImage s.cfg))
    else .next ((s.advance.setGpr rt (Config.freeWord s.run.draws)).drawn 1) := by
  show execSlbmfev rt rb s = _
  rw [execSlbmfev, State.privileged_of_not_problem _ hp, hrb, State.slbIndex_of_index hx]

/-- With an index in RB, `slbmfee` takes the image of the entry, or an undefined value with bit 36 zero of an invalid one. -/
theorem exec_slbmfee (rt : Reg) : exec (.slbmfee rt rb) s =
    if (s.slbEntry x.toNat).v then .next (s.advance.setGpr rt (s.slbEntry x.toNat).esidImage)
    else .next ((s.advance.setGpr rt (setBit (Config.freeWord s.run.draws) 36 false)).drawn 1) := by
  show execSlbmfee rt rb s = _
  rw [execSlbmfee, State.privileged_of_not_problem _ hp, hrb, State.slbIndex_of_index hx]

end MoveFrom

/-- Settles O45: the index in RB passes the tests, and the V bit of the entry decides between image and undefined value. -/
theorem slbMoveFromEntry : Obligations.SlbMoveFromEntry := by
  intro rt rb s i hp hi h12 hrb e gives
  have hindex : (BitVec.ofNat 12 i).toNat = i := Nat.mod_eq_of_lt h12
  have hrb' : s.readGpr rb = 0#52 ++ BitVec.ofNat 12 i := hrb.trans (ofNat_eq_index h12)
  have hfev := exec_slbmfev hp hrb' (hindex.trans_lt hi) rt
  have hfee := exec_slbmfee hp hrb' (hindex.trans_lt hi) rt
  rw [hindex] at hfev hfee
  refine ⟨fun hv => ⟨hfev.trans (if_pos hv), (hfee.trans (if_pos hv)).trans ?_⟩, fun hv => ?_⟩
  · rw [SlbEntry.esidImage, show (s.slbEntry i).v = true from hv]
    rfl
  · have hnot : ¬(s.slbEntry i).v = true := ne_true_of_eq_false hv
    have hbit : bit (setBit (Config.freeWord s.run.draws) 36 false) 36 = false := bit_setBit _ _ (by decide) (by decide)
    exact ⟨⟨_, hfev.trans (if_neg hnot)⟩, _, hfee.trans (if_neg hnot), hbit⟩

/-- Settles O46: RC holds the index of the entry that `slbmte` wrote, and the images of that entry are RS and RB. -/
theorem slbmteThenReadBack : Obligations.SlbmteThenReadBack := by
  intro rs rb rt rc s t ht hp hrc
  obtain ⟨hoperands, -, rfl⟩ := (exec_slbmte_next_iff hp).mp ht
  have hp' : (s.afterSlbmte (s.readGpr rs) (s.readGpr rb)).problem = false := hp
  have hrc' := hrc.trans (and_index (s.readGpr rb))
  have hlen := hoperands.index.trans_eq (s.length_slb_afterSlbmte (s.readGpr rs) (s.readGpr rb)).symm
  have hfev := exec_slbmfev hp' hrc' hlen rt
  have hfee := exec_slbmfee hp' hrc' hlen rt
  rw [hoperands.slbEntry_afterSlbmte] at hfev hfee
  refine ⟨_, _, hfev.trans (if_pos hoperands.valid), ?_, hfee.trans (if_pos hoperands.valid), ?_⟩
  · rw [State.readGpr_setGpr, if_pos rfl]
    exact SlbEntry.vsidImage_ofRegisters _ hoperands.rsClear hoperands.vsidInRange
  · rw [State.readGpr_setGpr, if_pos rfl]
    exact SlbEntry.esidImage_ofRegisters _ _

end Sys2Proof.Machine
end

section
/-! PROOFS. The TLB instructions without operands, and `ptesync` (O48). -/

namespace Sys2Proof.Machine

/-- An alteration that is no implicit branch takes effect (R142, R632). -/
theorem State.alter_of_noImplicitBranch {s t : State} (h : s.noImplicitBranch t) : s.alter t = .next t :=
  State.alter_next.mpr ⟨implicitBranch_eq_false.mpr h, rfl⟩

section Hypervisor
variable {s : State} (hhv : s.hypervisor = true) (htlb : s.cfg.hasTlb = true)
include hhv htlb

/-- Where `tlbia` is provided and permitted, only the test for an implicit branch stands before its effect (R392). -/
theorem exec_tlbia_eq_alter (htlbia : s.cfg.hasTlbia = true) :
    exec .tlbia s = s.alter { s.advance with tlb := [] } :=
  State.tlbInstruction_of_hypervisor _ hhv htlb htlbia

/-- Where `tlbsync` is provided and permitted, nothing stops it (R396). -/
theorem exec_tlbsync_eq_next (htlbsync : s.cfg.hasTlbsync = true) : exec .tlbsync s = .next s.advance :=
  State.tlbInstruction_of_hypervisor _ hhv htlb htlbsync

end Hypervisor

/-- `ptesync` makes no test (R398). -/
theorem exec_ptesync_eq_next (s : State) : exec .ptesync s = .next s.advance := rfl

/-- Settles O48: past the tests for the option and for hypervisor state `tlbia` is an alteration of the TLB alone, and `tlbsync`
is the advance to the next instruction; `ptesync` is that advance with no test before it. -/
theorem tlbInvalidateAllAndBarriers : Obligations.TlbInvalidateAllAndBarriers := by
  intro s
  refine ⟨fun hhv htlb htlbia hbranch => ?_, fun hhv htlb htlbsync => ?_, ?_⟩
  · exact (exec_tlbia_eq_alter hhv htlb htlbia).trans (State.alter_of_noImplicitBranch hbranch)
  · exact exec_tlbsync_eq_next hhv htlb htlbsync
  · exact exec_ptesync_eq_next s

end Sys2Proof.Machine
end

section
/-! PROOFS. `lq` and `stq` in real addressing mode (O49), and a quadword stored and loaded again (O51). -/

namespace Sys2Proof.Machine

/-! ### Where the operand lies (R152, R154, R156) -/

/-- In real addressing mode the operand at an effective address is at a real address: without offset or with that of HRMOR in
hypervisor real mode, else below the limit and offset by RMOR. -/
def State.LiesAt (s : State) (ea : Word) (a : RealAddr) : Prop :=
  let x : RealAddr := ea.extractLsb' 0 62
  if hv s.msr then
    if bit ea 0 then a = x else x.toNat < 2 ^ s.cfg.realBits ∧ a = x ||| s.spr.hrmor.extractLsb' 0 62
  else bit s.spr.lpcr 61 = true
    ∧ (if s.cfg.rmlrIgnoreHigh then x.toNat % 2 ^ s.cfg.realBits else x.toNat)
        < 2 ^ s.cfg.rmlsTable[(field s.spr.lpcr 35 3).toNat]!
    ∧ a.toNat = (x ||| s.spr.rmor.extractLsb' 0 62).toNat % 2 ^ s.cfg.realBits

theorem State.path_of_liesAt {s : State} {ea : Word} {a : RealAddr} (hle : le s.msr = false) (h : s.LiesAt ea a) :
    s.path false ea = .real a := by
  unfold State.LiesAt at h
  split at h
  next hhv =>
    split at h
    next h0 =>
      rw [h]
      exact State.path_without_offset hle hhv h0
    next h0 =>
      rw [h.2]
      exact State.path_with_hrmor hle hhv (eq_false_of_ne_true h0) h.1
  next hhv =>
    obtain ⟨hlpes, hbelow, ha⟩ := h
    have hpath := (State.path_with_rmor (ea := ea) hle (eq_false_of_ne_true hhv) hlpes).trans (if_pos hbelow)
    rw [hpath, BitVec.eq_of_toNat_eq (ha.trans (and_realMask_toNat s.cfg _).symm)]

/-- Without translation no Page Table Entry is used. -/
theorem State.path_false_ne_mapped (s : State) (ea : Word) (b : SlbEntry) (e : TlbEntry) (cached : Bool) :
    s.path false ea ≠ .mapped b e cached := by
  unfold State.path
  split
  · exact Path.noConfusion
  · rw [if_neg Bool.false_ne_true]
    split
    · exact Path.noConfusion
    · split <;> exact Path.noConfusion

/-- A path in real addressing mode is a matter of the MSR, the System Registers and the parameters. -/
theorem State.path_false_congr {s t : State} (hmsr : t.msr = s.msr) (hspr : t.spr = s.spr) (hcfg : t.cfg = s.cfg) (ea : Word) :
    t.path false ea = s.path false ea := by
  have hrange : t.realRange ea = s.realRange ea := by rw [State.realRange, State.realRange, hmsr, hcfg]
  have hmode : t.realMode ea = s.realMode ea := by rw [State.realMode, State.realMode, hmsr, hspr, hcfg]
  rw [State.path, State.path, hmsr, hrange, hmode, if_neg Bool.false_ne_true, if_neg Bool.false_ne_true]

/-! ### The reservation (R411) -/

theorem granule_eq_iff (c : Params) (g a : RealAddr) :
    granule c g = granule c a ↔ g.toNat / 2 ^ c.granuleLog2 = a.toNat / 2 ^ c.granuleLog2 := by
  rw [← BitVec.toNat_inj, granule, granule, ushiftRight_shiftLeft_toNat, ushiftRight_shiftLeft_toNat]
  exact Nat.mul_left_inj (Nat.two_pow_pos _).ne'

theorem State.reservation_loseReservation (s : State) (a g : RealAddr) : (s.loseReservation a).bookI.reservation = some g ↔
    s.bookI.reservation = some g ∧ g.toNat / 2 ^ s.cfg.granuleLog2 ≠ a.toNat / 2 ^ s.cfg.granuleLog2 := by
  rw [State.loseReservation, Option.filter_eq_some_iff, bne_iff_ne, Ne, granule_eq_iff]

theorem State.reservation_storeQuad (s : State) (rs : Reg) (a g : RealAddr) (ea : Word) :
    (s.storeQuad rs a ea).bookI.reservation = some g ↔
      s.bookI.reservation = some g ∧ g.toNat / 2 ^ s.cfg.granuleLog2 ≠ a.toNat / 2 ^ s.cfg.granuleLog2 :=
  State.reservation_loseReservation _ a g

/-! ### The access in real addressing mode, which records nothing -/

theorem State.readDw_drawn_use (s : State) (n : Nat) (us : List PageUse) (x : RealAddr) :
    ((s.drawn n).use us).readDw x = s.readDw x := rfl

theorem State.readGpr_drawn_use (s : State) (n : Nat) (us : List PageUse) (q : Reg) :
    ((s.drawn n).use us).readGpr q = s.readGpr q := rfl

theorem State.byte_drawn_use (s : State) (n : Nat) (us : List PageUse) (x : RealAddr) :
    ((s.drawn n).use us).byte x = s.byte x := rfl

theorem State.probe_real_ok {s : State} {k : AccessKind} {x : Part} {a : RealAddr}
    (hno : (s.realViolation k x (some a)).any = false) (hpresent : absentHit s.cfg a x.size = false) :
    s.probe k (.real a) x = .ok ⟨a, x.size, false, s.realInhibited a x.size, none⟩ (s.drawn 3) :=
  (if_neg (Bool.eq_false_iff.mp hno)).trans (if_neg (Bool.eq_false_iff.mp hpresent))

theorem State.dataAccess_real_ok {s : State} {k : AccessKind} {ea : Word} {n : Nat} {a : RealAddr}
    (hpath : s.path (dr s.msr) ea = .real a) (hno : (s.realViolation k (.whole ea n) (some a)).any = false)
    (hpresent : absentHit s.cfg a n = false) : ∃ us, s.dataAccess k ea n = .ok a ((s.drawn 3).use us) :=
  ⟨_, State.dataAccess_of_probe_ok hpath (State.probe_real_ok hno hpresent)⟩

/-- An access that has succeeded without translation. -/
theorem State.dataAccess_ok_real {s t : State} {k : AccessKind} {ea : Word} {n : Nat} {a : RealAddr} (hdr : dr s.msr = false)
    (h : s.dataAccess k ea n = .ok a t) : s.path false ea = .real a ∧ ∃ us, t = (s.drawn 3).use us := by
  obtain ⟨x, -, rfl, -, hx⟩ := State.dataAccess_ok h
  rw [hdr] at hx
  obtain ⟨hpath, hentry, -⟩ | ⟨b, e, cached, hmapped, -⟩ := hx
  · exact ⟨hpath, x.pageUses k.recording, by rw [State.commit, hentry]⟩
  · exact absurd hmapped (s.path_false_ne_mapped ea b e cached)

section Real

variable {r ra : Reg} {s : State} {a : RealAddr} (hq : s.cfg.hasLqstq = true) (hreal : s.realData) (hoff : s.breakpointsOff)
  (hrmsc : (s.cfg.hasRmsc && hv s.msr && rmi s.spr.lpcr) = false) (heven : r.getLsbD 0 = false)
  (hpresent : absentHit s.cfg a 16 = false)
include hreal hoff hrmsc hpresent

theorem State.dataAccess_quad_real {ea : Word} (store : Bool) (hlies : s.LiesAt ea a) :
    ∃ us, s.dataAccess (.quad store) ea 16 = .ok a ((s.drawn 3).use us) := by
  obtain ⟨-, hdr, hle⟩ := hreal
  exact State.dataAccess_real_ok (hdr ▸ State.path_of_liesAt hle hlies) (State.realViolation_quad_any hoff a hrmsc) hpresent

include hq heven

theorem exec_lq_real {dq : BitVec 12} (hne : r ≠ ra) (hea : lqEa s dq ra &&& 15 = 0) (hlies : s.LiesAt (lqEa s dq ra) a) :
    ∃ us, exec (.lq r dq ra) s = .next (((s.drawn 3).use us).loadQuad r a (lqEa s dq ra)) := by
  obtain ⟨us, haccess⟩ := State.dataAccess_quad_real hreal hoff hrmsc hpresent false hlies
  obtain ⟨hp, hdr, -⟩ := hreal
  exact ⟨us, by rw [exec_lq_access hq hp (by rw [hdr, Bool.false_and]) heven hne hea, haccess]; rfl⟩

theorem exec_stq_real {ds : BitVec 14} (hea : stqEa s ds ra &&& 15 = 0) (hlies : s.LiesAt (stqEa s ds ra) a)
    (hbranch : s.noImplicitBranch ((s.drawn 3).storeQuad r a (stqEa s ds ra))) :
    ∃ us, exec (.stq r ds ra) s = .next (((s.drawn 3).use us).storeQuad r a (stqEa s ds ra)) := by
  obtain ⟨us, haccess⟩ := State.dataAccess_quad_real hreal hoff hrmsc hpresent true hlies
  obtain ⟨hp, hdr, -⟩ := hreal
  refine ⟨us, ?_⟩
  rw [exec_stq_access hq hp (by rw [hdr, Bool.false_and]) heven hea, haccess]
  refine State.alter_of_noImplicitBranch ?_
  rw [State.storeQuad_use]
  exact State.noImplicitBranch_use us hbranch

end Real

/-- Settles O49: the access leads to the address of `State.LiesAt` and records nothing; registers, bytes and the reservation are
read off the state after it. -/
theorem quadInRealMode : Obligations.QuadInRealMode := by
  intro r ra dq ds s hq hreal hoff hrmsc heven
  constructor
  · intro a ea hne hea hlies hpresent
    obtain ⟨us, hexec⟩ := exec_lq_real hq hreal hoff hrmsc heven hpresent hne hea hlies
    refine ⟨_, hexec, ?_, ?_, fun q hr hpair => ?_, rfl⟩
    · rw [State.readGpr_loadQuad, if_neg (ne_pairOf heven), if_pos rfl, State.readDw_drawn_use]
    · rw [State.readGpr_loadQuad, State.readDw_drawn_use]
      exact if_pos rfl
    · rw [State.readGpr_loadQuad, if_neg hr, State.readGpr_drawn_use]
      exact if_neg hpair
  · intro a ea hea hlies hpresent hbranch
    obtain ⟨us, hexec⟩ := exec_stq_real hq hreal hoff hrmsc heven hpresent hea hlies hbranch
    refine ⟨_, hexec, ?_, ?_, fun x hx => ?_, fun g => ?_, rfl⟩
    · rw [State.readDw_storeQuad_first, State.readGpr_drawn_use]
    · rw [State.readDw_storeQuad_second, State.readGpr_drawn_use]
      rfl
    · rw [State.byte_storeQuad_outside _ _ _ hx, State.byte_drawn_use]
    · exact State.reservation_storeQuad _ r a g _

/-! ### A quadword that has been stored or loaded (R410, R411) -/

section Untrapped

variable {s t : State} (hs : t.run.trapped = false)
include hs

theorem TrapFrame.not_untrapped (h : TrapFrame s t) : False := Bool.noConfusion (h.trapped.symm.trans hs)

/-- No interrupt has been taken, so every test has passed. -/
theorem State.quadTests_next {formOk : Bool} {dsisr : Nat → Half} {ea : Word} {f : Result}
    (h : s.quadTests formOk dsisr ea f = .next t) : formOk = true ∧ f = .next t := by
  obtain ⟨-, rfl⟩ | ⟨-, h⟩ := State.optional_next h
  · exact ((s.program_frame _).not_untrapped hs).elim
  obtain ⟨-, rfl⟩ | ⟨-, h⟩ := State.privileged_next h
  · exact ((s.program_frame _).not_untrapped hs).elim
  split at h
  · cases h
    exact ((s.program_frame _).not_untrapped hs).elim
  next hform =>
    split at h
    · cases h
      exact (((s.drawn 1).alignment_frame _ _).not_untrapped hs).elim
    · exact ⟨by simpa using hform, h⟩

/-- No interrupt has been taken, so the operand has been accessed. -/
theorem State.quadAccess_next {store : Bool} {ea : Word} {f : RealAddr → State → Result} (hdr : dr s.msr = false)
    (h : (s.overflowTest store ea ((s.dataAccess (.quad store) ea 16).andThen f)) = .next t) :
    ∃ a us, s.path false ea = .real a ∧ f a ((s.drawn 3).use us) = .next t := by
  obtain htrap | ⟨-, h⟩ := State.overflowTest_next h
  · exact (htrap.not_untrapped hs).elim
  obtain haccess | ⟨a, u, haccess, h⟩ := Access.andThen_next h
  · exact ((State.dataAccess_trap haccess).not_untrapped hs).elim
  obtain ⟨hpath, us, rfl⟩ := State.dataAccess_ok_real hdr haccess
  exact ⟨a, us, hpath, h⟩

theorem exec_lq_untrapped {rt ra : Reg} {dq : BitVec 12} (hdr : dr s.msr = false) (h : exec (.lq rt dq ra) s = .next t) :
    rt.getLsbD 0 = false ∧ ∃ a us, s.path false (lqEa s dq ra) = .real a
      ∧ t = ((s.drawn 3).use us).loadQuad rt a (lqEa s dq ra) := by
  rw [exec_lq] at h
  obtain ⟨hform, h⟩ := State.quadTests_next hs h
  obtain ⟨a, us, hpath, h⟩ := State.quadAccess_next hs hdr h
  cases h
  exact ⟨(lqFormOk_iff.mp hform).1, a, us, hpath, rfl⟩

theorem exec_stq_untrapped {rs ra : Reg} {ds : BitVec 14} (hdr : dr s.msr = false) (h : exec (.stq rs ds ra) s = .next t) :
    ∃ a us, s.path false (stqEa s ds ra) = .real a ∧ t = ((s.drawn 3).use us).storeQuad rs a (stqEa s ds ra) := by
  rw [exec_stq] at h
  obtain ⟨-, h⟩ := State.quadTests_next hs h
  obtain ⟨a, us, hpath, h⟩ := State.quadAccess_next hs hdr h
  exact ⟨a, us, hpath, (State.alter_next.mp h).2⟩

end Untrapped

/-- Settles O51: `stq` alters nothing that the path of the operand depends on, so `lq` reads the doublewords it stored. -/
theorem stqThenLq : Obligations.StqThenLq := by
  intro rs rt ra ds dq s t u hreal _ hstq ht hlq hu hea
  obtain ⟨-, hdr, -⟩ := hreal
  obtain ⟨a, us, hpath, hstored⟩ := exec_stq_untrapped ht hdr hstq
  have hsame : t.path false (stqEa s ds ra) = s.path false (stqEa s ds ra) :=
    State.path_false_congr (by rw [hstored]; rfl) (by rw [hstored]; rfl) (by rw [hstored]; rfl) _
  obtain ⟨heven, b, vs, hpath', rfl⟩ := exec_lq_untrapped hu (by rw [hstored]; exact hdr) hlq
  obtain rfl : a = b := Path.real.inj (by rw [← hpath, ← hsame, ← hea, hpath'])
  have hfirst : t.readDw a = s.readGpr rs := by
    rw [hstored, State.readDw_storeQuad_first, State.readGpr_drawn_use]
  have hsecond : t.readDw (a + 8) = s.readGpr (rs ||| 1) := by
    rw [hstored, State.readDw_storeQuad_second, State.readGpr_drawn_use]
    rfl
  constructor
  · rw [State.readGpr_loadQuad, if_neg (ne_pairOf heven), if_pos rfl, State.readDw_drawn_use, hfirst]
  · rw [State.readGpr_loadQuad, State.readDw_drawn_use, hsecond]
    exact if_pos rfl

end Sys2Proof.Machine
end

section
/-! PROOFS. The Bridge: `mtsr` and `mtsrin` (O52), `mfsr` and `mfsrin`, and a Segment Register written and read back (O53). -/

namespace Sys2Proof.Machine

/-! ### The SLB entry of a Segment Register (R426, R428) -/

theorem ushiftRight_eq_zero_iff {w n : Nat} {x : BitVec w} : x >>> n = 0#w ↔ x.toNat < 2 ^ n := by
  rw [← BitVec.toNat_inj, BitVec.toNat_ushiftRight, Nat.shiftRight_eq_div_pow, BitVec.toNat_zero,
    Nat.div_eq_zero_iff_lt (Nat.two_pow_pos n)]

theorem SlbEntry.isSegment_iff {e : SlbEntry} : e.isSegment = true ↔
    e.v = true ∧ e.esid.toNat < 16 ∧ e.vsid.toNat < 2 ^ 27 ∧ e.l = false ∧ e.c = false := by
  simp only [SlbEntry.isSegment, Bool.and_eq_true, beq_iff_eq, Bool.not_eq_true', and_assoc, BitVec.ofNat_eq_ofNat,
    ushiftRight_eq_zero_iff, Nat.reducePow]

/-- RS[36] is the bit that a Segment Register cannot hold. -/
theorem SlbEntry.isSegment_ofSegment (sr : BitVec 4) {v : Word} (h : bit v 36 = false) :
    (SlbEntry.ofSegment sr v).isSegment = true := by
  refine SlbEntry.isSegment_iff.mpr ⟨rfl, ?_, ?_, h, rfl⟩
  · show (0#32 ++ sr).toNat < 16
    rw [toNat_append_eq, BitVec.toNat_zero]
    omega
  · show (0#25 ++ field v 37 27).toNat < 2 ^ 27
    rw [toNat_append_eq, BitVec.toNat_zero]
    omega

/-- The fields of RS that the entry keeps stand in the image where they stood in RS. -/
theorem SlbEntry.segmentImage_ofSegment (sr : BitVec 4) (v : Word) :
    (SlbEntry.ofSegment sr v).segmentImage = v.extractLsb' 0 32 &&& 0x7FFFFFFF := by
  have hvsid : (0#25 ++ field v 37 27).setWidth 27 = field v 37 27 := BitVec.setWidth_append_eq_right
  have hfields : bit1 (bit v 33) ++ bit1 (bit v 34) ++ bit1 (bit v 35) ++ bit1 (bit v 36) ++ field v 37 27
      = v.extractLsb' 0 31 := by
    simp only [field, bit, bit1_getLsbD, Nat.reduceSub, BitVec.extractLsb'_append_extractLsb'_eq_extractLsb']
  have hcut : v.extractLsb' 0 32 &&& 0x7FFFFFFF = _ := and_append_eq (v.extractLsb' 0 32) 0#1 (BitVec.allOnes 31)
  calc (SlbEntry.ofSegment sr v).segmentImage
      = 0#1 ++ bit1 (bit v 33) ++ bit1 (bit v 34) ++ bit1 (bit v 35) ++ bit1 (bit v 36) ++ field v 37 27 := by
        rw [← hvsid]; rfl
    _ = 0#1 ++ v.extractLsb' 0 31 := by
        rw [← hfields]; simp only [BitVec.append_assoc, BitVec.cast_eq]
    _ = v.extractLsb' 0 32 &&& 0x7FFFFFFF := by
        rw [hcut, BitVec.and_allOnes, BitVec.and_zero, BitVec.extractLsb'_extractLsb'_of_le (by decide)]

/-! ### The four instructions -/

/-- With the Bridge and outside problem state the mode is the one test left (R426 to R429). -/
theorem State.bridge_eq_require {s : State} (f : Result) (hb : s.cfg.hasBridge = true) (hp : s.problem = false) :
    s.bridge f = require (!sf s.msr) .wrongMode f := by
  rw [State.bridge, State.optional, if_pos hb, State.privileged_of_not_problem _ hp]

theorem State.bridge_of_narrow {s : State} (f : Result) (hb : s.cfg.hasBridge = true) (hp : s.problem = false)
    (hsf : sf s.msr = false) : s.bridge f = f := by
  rw [State.bridge_eq_require f hb hp, hsf]
  exact require_of_true rfl

theorem State.loadSegment_next {s t : State} {sr : BitVec 4} {v : Word} : s.loadSegment sr v = .next t ↔
    bit v 36 = false ∧ s.noImplicitBranch (s.advance.setSlbEntry sr.toNat (SlbEntry.ofSegment sr v))
      ∧ t = s.advance.setSlbEntry sr.toNat (SlbEntry.ofSegment sr v) := by
  rw [State.loadSegment, require_next, State.alter_next, Bool.not_eq_true', implicitBranch_eq_false]
  rfl

/-- RT after `mfsr` of Segment Register `sr`. -/
def State.segmentWord (s : State) (sr : BitVec 4) : Word :=
  if (s.slbEntry sr.toNat).isSegment then high (Config.freeWord s.run.draws) ++ (s.slbEntry sr.toNat).segmentImage
  else Config.freeWord s.run.draws

theorem State.storeSegment_eq (s : State) (rt : Reg) (sr : BitVec 4) :
    s.storeSegment rt sr = .next ((s.advance.setGpr rt (s.segmentWord sr)).drawn 1) := rfl

theorem State.segmentWord_low {s : State} {sr : BitVec 4} (h : (s.slbEntry sr.toNat).isSegment = true) :
    (s.segmentWord sr).extractLsb' 0 32 = (s.slbEntry sr.toNat).segmentImage := by
  rw [State.segmentWord, if_pos h]
  exact BitVec.extractLsb'_append_eq_right

/-- `mtsrin` is `mtsr` of the Segment Register that RB[32:35] selects (R427). -/
theorem exec_mtsrin (rs rb : Reg) (s : State) :
    exec (.mtsrin rs rb) s = exec (.mtsr ((s.readGpr rb).extractLsb' 28 4) rs) s := rfl

/-- `mfsrin` is `mfsr` of the Segment Register that RB[32:35] selects (R429). -/
theorem exec_mfsrin (rt rb : Reg) (s : State) :
    exec (.mfsrin rt rb) s = exec (.mfsr rt ((s.readGpr rb).extractLsb' 28 4)) s := rfl

section Provided
variable {s : State} (hb : s.cfg.hasBridge = true) (hp : s.problem = false)
include hb hp

theorem exec_mtsr_next_iff {sr : BitVec 4} {rs : Reg} {t : State} : exec (.mtsr sr rs) s = .next t ↔
    sf s.msr = false ∧ s.loadSegment sr (s.readGpr rs) = .next t := by
  show s.bridge _ = _ ↔ _
  rw [State.bridge_eq_require _ hb hp, require_next, Bool.not_eq_true']

theorem exec_mfsr (hsf : sf s.msr = false) (rt : Reg) (sr : BitVec 4) :
    exec (.mfsr rt sr) s = .next ((s.advance.setGpr rt (s.segmentWord sr)).drawn 1) :=
  (State.bridge_of_narrow _ hb hp hsf).trans (s.storeSegment_eq rt sr)

end Provided

/-- Settles O52: with RS[36]=0 only the test for an implicit branch stands before the entry is written. -/
theorem moveToSegmentRegister : Obligations.MoveToSegmentRegister := by
  intro sr rs rb s hb hp hsf hlen v e hv hbranch
  have hentry : SlbEntry.ofSegment sr v = e := by
    have hesid : sr.setWidth 36 = 0#32 ++ sr := BitVec.setWidth_eq_append (by decide)
    have hvsid : (v.extractLsb' 0 27).setWidth 52 = 0#25 ++ field v 37 27 := BitVec.setWidth_eq_append (by decide)
    show SlbEntry.mk _ _ _ _ _ _ (v.getLsbD 27) _ = SlbEntry.mk _ _ _ _ _ _ _ _
    rw [hv, hesid, hvsid]
    rfl
  have hmtsr : exec (.mtsr sr rs) s = .next (s.advance.setSlbEntry sr.toNat e) :=
    (exec_mtsr_next_iff hb hp).mpr ⟨hsf, State.loadSegment_next.mpr ⟨hv, hentry ▸ hbranch, by rw [← hentry]⟩⟩
  refine ⟨_, hmtsr, State.slbEntry_setSlbEntry_same e (sr.isLt.trans_le hlen), rfl, ?_⟩
  rintro rfl
  exact (exec_mtsrin rs rb s).trans hmtsr

/-- Settles O53: RT is `State.segmentWord`, and the entry that `mtsr` makes has the form of a Segment Register. -/
theorem moveFromSegmentRegister : Obligations.MoveFromSegmentRegister := by
  constructor
  · intro sr rt rb s hb hp hsf e
    refine ⟨s.segmentWord sr, exec_mfsr hb hp hsf rt sr, ?_, fun hv hesid hvsid hl hc => ?_⟩
    · rintro rfl
      exact exec_mfsrin rt rb s
    · rw [State.segmentWord_low (SlbEntry.isSegment_iff.mpr ⟨hv, hesid, hvsid, hl, hc⟩), SlbEntry.segmentImage,
        show (s.slbEntry sr.toNat).l = false from hl, BitVec.setWidth_eq_extractLsb' (by decide)]
      rfl
  · intro sr rs rt s t hp hb hlen ht
    obtain ⟨hsf, hload⟩ := (exec_mtsr_next_iff hb hp).mp ht
    obtain ⟨hv, -, rfl⟩ := State.loadSegment_next.mp hload
    have hentry := State.slbEntry_setSlbEntry_same (s := s.advance) (SlbEntry.ofSegment sr (s.readGpr rs)) (sr.isLt.trans_le hlen)
    refine ⟨_, exec_mfsr (s := s.advance.setSlbEntry _ _) hb hp hsf rt sr, ?_⟩
    have hform := hentry.symm ▸ SlbEntry.isSegment_ofSegment sr hv
    rw [State.readGpr_drawn, State.readGpr_setGpr, if_pos rfl, State.segmentWord_low hform, hentry,
      SlbEntry.segmentImage_ofSegment]

end Sys2Proof.Machine
end

section
/-! PROOFS. Interrupt processing (O17), a System Reset other than power-on (O18), and the Checkstop state (O21). -/

namespace Sys2Proof.Machine

/-! ### Interrupt processing, bit by bit (R450, R452, R453) -/

theorem bit_newMsr (c : Params) (lpcr : Word) (k : IntKind) (old : Word) {i : Nat} (hi : i < 64) :
    bit (newMsr c lpcr k old) i =
      if i = 0 then true
      else if i = 3 then setsHv lpcr k || bit old 3
      else if i = 51 then k != .machineCheck && bit old 51
      else if i = 62 then k == .hypDecrementer && bit old 62
      else if i = 63 then c.hasLe && !setsHv lpcr k && bit lpcr 38
      else false := by
  have hbits : bit (newMsr c lpcr k old) i =
      (decide (0 = i) || (setsHv lpcr k || bit old 3) && decide (3 = i)
        || (k != .machineCheck && bit old 51) && decide (51 = i) || (k == .hypDecrementer && bit old 62) && decide (62 = i)
        || (c.hasLe && !setsHv lpcr k && bit lpcr 38) && decide (63 = i)) := by
    simp only [newMsr, bit_or, bit_bitIf _ (by decide : 0 < 64) hi, bit_bitIf _ (by decide : 3 < 64) hi,
      bit_bitIf _ (by decide : 51 < 64) hi, bit_bitIf _ (by decide : 62 < 64) hi, bit_bitIf _ (by decide : 63 < 64) hi,
      hv, me, ri, ile, Bool.true_and]
  rw [hbits]
  split_ifs with h0 h3 h51 h62 h63
  · simp [h0]
  · simp [h3]
  · simp [h51]
  · simp [h62]
  · simp [h63]
  · simp [Ne.symm h0, Ne.symm h3, Ne.symm h51, Ne.symm h62, Ne.symm h63]

theorem bit_infoMask {i : Nat} (hi : i < 64) : bit infoMask i = decide ((33 ≤ i ∧ i ≤ 36) ∨ (42 ≤ i ∧ i ≤ 47)) := by
  interval_cases i <;> rfl

theorem bit_srr1Of (old info : Word) {i : Nat} (hi : i < 64) :
    bit (srr1Of old info) i = if (33 ≤ i ∧ i ≤ 36) ∨ (42 ≤ i ∧ i ≤ 47) then bit info i else bit old i := by
  rw [srr1Of, bit_insertBits _ _ _ hi, bit_infoMask hi]
  simp only [decide_eq_true_eq]

/-- Only a Hypervisor Decrementer interrupt saves in HSRR0 and HSRR1 (R450, R487). -/
theorem State.takeInterrupt_spr (s : State) (k : IntKind) (addr info : Word) : (s.takeInterrupt k addr info).spr =
    if k = .hypDecrementer then { s.spr with hsrr0 := ea32 s.msr addr, hsrr1 := srr1Of s.msr info }
    else { s.spr with srr0 := ea32 s.msr addr, srr1 := srr1Of s.msr info } := by
  cases k <;> rfl

/-- Settles O17: the new MSR is that of `bit_newMsr`, and the saved registers are those of `State.takeInterrupt_spr`. -/
theorem interruptProcessing : Obligations.InterruptProcessing := by
  intro s k addr info t a
  have hspr := s.takeInterrupt_spr k addr info
  refine ⟨by cases k <;> rfl, ?_, fun hk => ?_, fun hk => ?_, rfl⟩
  · intro hv1 i hi
    have hset : hv1 = setsHv s.spr.lpcr k := by cases k <;> rfl
    have hmachine : decide (k ≠ .machineCheck) = (k != .machineCheck) := by cases k <;> rfl
    have hdecrementer : decide (k = .hypDecrementer) = (k == .hypDecrementer) := rfl
    rw [hset, hmachine, hdecrementer]
    exact bit_newMsr s.cfg s.spr.lpcr k s.msr hi
  · rw [if_neg hk] at hspr
    show (s.takeInterrupt k addr info).spr = _ ∧ ∀ i, i < 64 → bit (s.takeInterrupt k addr info).spr.srr1 i = _
    rw [hspr]
    exact ⟨rfl, fun i hi => bit_srr1Of _ _ hi⟩
  · rw [if_pos hk] at hspr
    show (s.takeInterrupt k addr info).spr = _ ∧ ∀ i, i < 64 → bit (s.takeInterrupt k addr info).spr.hsrr1 i = _
    rw [hspr]
    exact ⟨rfl, fun i hi => bit_srr1Of _ _ hi⟩

/-! ### What the environment leaves alone before a step -/

@[simp] theorem State.present_checkstop (s : State) : s.present.checkstop = s.checkstop := by
  obtain ⟨b, tlb, run, he, -⟩ := s.present_eq
  rw [he]

@[simp] theorem State.present_gpr (s : State) : s.present.gpr = s.gpr := by
  obtain ⟨b, tlb, run, he, -⟩ := s.present_eq
  rw [he]

@[simp] theorem State.present_slb (s : State) : s.present.slb = s.slb := by
  obtain ⟨b, tlb, run, he, -⟩ := s.present_eq
  rw [he]

@[simp] theorem State.present_cia (s : State) : s.present.cia = s.cia := by
  obtain ⟨b, tlb, run, he, -⟩ := s.present_eq
  rw [he]
  rfl

/-- Where the environment stores nothing, it alters the pending exceptions and the TLB only. -/
theorem State.present_of_no_stores {s : State} (h : s.input.stores = []) :
    ∃ tlb run, s.present = { s with pend := s.pend.present s.input, tlb := tlb, run := run } := by
  unfold State.present
  rw [h]
  exact ⟨_, _, rfl⟩

/-! ### System Reset (R461, R620) -/

/-- The row of Figure 35 for System Reset: SF and HV set, ME kept. -/
theorem newMsr_systemReset (c : Params) (lpcr old : Word) :
    newMsr c lpcr .systemReset old = 0x9000000000000000 ||| (old &&& 0x1000) := by
  rw [newMsr_of_ordinary _ _ _ (by decide) (by decide)]
  simp [setsHv]

theorem State.systemReset_checkstop (s : State) (k : ResetKind) : (s.systemReset k).checkstop = false := by
  cases k <;> rfl

/-- Bits outside `m` are those of the destination. -/
theorem insertBits_and_of_disjoint {m k : Word} (h : m &&& k = 0) (d src : Word) : insertBits d src m &&& k = d &&& k := by
  apply BitVec.eq_of_getLsbD_eq
  intro i hi
  have hdisjoint : (m &&& k).getLsbD i = false := by rw [h]; exact BitVec.getLsbD_zero
  rw [BitVec.getLsbD_and] at hdisjoint
  simp only [insertBits, BitVec.getLsbD_and, BitVec.getLsbD_or, BitVec.getLsbD_not, hi, decide_true, Bool.true_and]
  cases hm : m.getLsbD i <;> cases hk : k.getLsbD i <;> simp_all

/-- Bits inside `m` are those of the source. -/
theorem insertBits_and_self (d src m : Word) : insertBits d src m &&& m = src &&& m := by
  apply BitVec.eq_of_getLsbD_eq
  intro i hi
  simp only [insertBits, BitVec.getLsbD_and, BitVec.getLsbD_or, BitVec.getLsbD_not, hi, decide_true, Bool.true_and]
  cases m.getLsbD i <;> simp

theorem resetInfo_and_infoMask (x : BitVec 3) : resetInfo x &&& infoMask = resetInfo x := by
  revert x
  decide

/-- SRR1 of a reset: the MSR, the platform's bits 42:44, and RI if the state is recoverable (R461). -/
theorem bits_resetSrr1 (old : Word) (x : BitVec 3) (b : Bool) :
    setBit (srr1Of old (resetInfo x)) 62 b &&& ~~~0x783F0002 = old &&& ~~~0x783F0002
      ∧ setBit (srr1Of old (resetInfo x)) 62 b &&& infoMask = resetInfo x
      ∧ bit (setBit (srr1Of old (resetInfo x)) 62 b) 62 = b := by
  refine ⟨?_, ?_, (bit_setBit _ _ (by decide) (by decide)).trans (if_pos rfl)⟩
  · rw [setBit, insertBits_and_of_disjoint (by decide), srr1Of, insertBits_and_of_disjoint (by decide)]
  · rw [setBit, insertBits_and_of_disjoint (by decide), srr1Of, insertBits_and_self, resetInfo_and_infoMask]

theorem State.systemReset_other (s : State) (recoverable : Bool) : s.systemReset (.other recoverable) = { s with
    nia := 0x100, msr := newMsr s.cfg s.spr.lpcr .systemReset s.msr
    spr := { s.spr with
      srr0 := s.cia
      srr1 := setBit (srr1Of s.msr (resetInfo s.cfg.sresetInfoOther)) 62
        (recoverable && !s.checkstop && s.pend.machineCheck.isNone && ri s.msr) }
    pend := ⟨none, none, s.pend.external⟩, checkstop := false, run := { s.run with trapped := true } } := by
  rw [← s.ea32_cia]
  rfl

/-- Settles O18: the reset is the interrupt, with SRR1 as in `bits_resetSrr1`; counting and ticks leave these registers alone. -/
theorem systemResetStep : Obligations.SystemResetStep := by
  intro s i rest recoverable hi hk
  refine ⟨_, step_of_sysReset hi hk, ?_⟩
  have hinput : s.input = i := by simp [State.input, hi]
  obtain ⟨hsaved, hinfo, hri⟩ := bits_resetSrr1 s.msr s.cfg.sresetInfoOther
    (recoverable && !s.checkstop && s.present.pend.machineCheck.isNone && ri s.msr)
  obtain ⟨time, pm, run, he, -⟩ := (s.present.systemReset (.other recoverable)).elapse_eq s.present i none
  rw [he, State.systemReset_other, State.present_msr, State.present_cfg, State.present_spr, State.present_cia,
    State.present_checkstop]
  refine ⟨rfl, newMsr_systemReset _ _ _, rfl, hsaved, hinfo, ?_, rfl, s.present_gpr, s.present_slb, fun hstores => ?_⟩
  · have hlost : s.present.pend.machineCheck.isNone = (i.machineCheck.isNone && s.pend.machineCheck.isNone) := by
      rw [State.present_pend, hinput, Pending.present]
      cases i.machineCheck <;> rfl
    rw [hri, hlost]
    ac_rfl
  · obtain ⟨tlb, run', hpresent⟩ := State.present_of_no_stores (by rw [hinput]; exact hstores)
    rw [hpresent]
    exact ⟨rfl, rfl⟩

/-! ### The Checkstop state (R463) -/

/-- Settles O21: in Checkstop state a reset that is presented is the only case of R501 with a next state. -/
theorem checkstopSuspends : Obligations.CheckstopSuspends := by
  refine ⟨fun s hs hreset => ?_, fun s t hs ht => ?_⟩
  · rw [step, State.boundary, hreset, State.present_checkstop, hs]
    rfl
  · obtain ⟨k, hk, rfl⟩ | ⟨-, hrunning, -⟩ := State.boundary_next ht
    · obtain ⟨time, pm, run, he, -⟩ := (s.present.systemReset k).elapse_eq s.present s.input none
      rw [he]
      exact ⟨by rw [hk]; nofun, (s.present.systemReset_msr k).1, State.systemReset_checkstop _ _⟩
    · rw [State.present_checkstop, hs] at hrunning
      cases hrunning

end Sys2Proof.Machine
end

section
/-! PROOFS. Ticks, counting and alerts: the timers over a step, what the counters count, what sets off an alert (O40), and the
maskable interrupts (O22). -/

namespace Sys2Proof.Machine

/-! ### The timers (R551, R561, R567, R572) -/

/-- The timers `n` ticks later. -/
def Timers.after (x : Timers) (tbEnabled : Bool) (n : Nat) : Timers where
  tb := if tbEnabled then x.tb + BitVec.ofNat 64 n else x.tb
  dec := x.dec - BitVec.ofNat 32 n
  hdec := x.hdec - BitVec.ofNat 32 n
  purr := x.purr + BitVec.ofNat 64 n

theorem Timers.after_succ (x : Timers) (e : Bool) (n : Nat) : (x.after e 1).after e n = x.after e (n + 1) := by
  have hsub {w : Nat} (y : BitVec w) : y - BitVec.ofNat w 1 - BitVec.ofNat w n = y - BitVec.ofNat w (n + 1) := by
    rw [sub_sub, ← BitVec.ofNat_add, Nat.add_comm]
  have hadd {w : Nat} (y : BitVec w) : y + BitVec.ofNat w 1 + BitVec.ofNat w n = y + BitVec.ofNat w (n + 1) := by
    rw [add_assoc, ← BitVec.ofNat_add, Nat.add_comm]
  simp only [Timers.after, hsub, hadd]
  cases e
  · rfl
  · simp only [if_true, hadd]

theorem State.ticks_time (s : State) (n : Nat) : (s.ticks n).time = s.time.after s.cfg.tbEnabled n := by
  induction n generalizing s with
  | zero => simp [State.ticks, Timers.after]
  | succ n ih =>
    obtain ⟨pm, run, he, -⟩ := s.tick_eq
    rw [State.ticks, ih, he, ← Timers.after_succ]
    rfl

@[simp] theorem State.pmEvaluate_time (s : State) (event : Bool) (p : Sample) : (s.pmEvaluate event p).time = s.time := by
  obtain ⟨pm, run, he, -⟩ := s.pmEvaluate_eq event p
  rw [he]

@[simp] theorem State.pmEvaluate_cfg (s : State) (event : Bool) (p : Sample) : (s.pmEvaluate event p).cfg = s.cfg := by
  obtain ⟨pm, run, he, -⟩ := s.pmEvaluate_eq event p
  rw [he]

@[simp] theorem State.count_time (s : State) (m : Word) (h : Happened) : (s.count m h).time = s.time := by
  obtain ⟨pmc, he⟩ := s.count_eq m h
  rw [he]

@[simp] theorem State.count_cfg (s : State) (m : Word) (h : Happened) : (s.count m h).cfg = s.cfg := by
  obtain ⟨pmc, he⟩ := s.count_eq m h
  rw [he]

@[simp] theorem State.count_mmcr0 (s : State) (m : Word) (h : Happened) : (s.count m h).pm.mmcr0 = s.pm.mmcr0 := by
  obtain ⟨pmc, he⟩ := s.count_eq m h
  rw [he]

@[simp] theorem State.afterTracing_time (t old : State) : (t.afterTracing old).time = t.time := by
  unfold State.afterTracing
  split <;> rfl

@[simp] theorem State.afterTracing_pm (t old : State) : (t.afterTracing old).pm = t.pm := by
  unfold State.afterTracing
  split <;> rfl

theorem State.elapse_time (t old : State) (i : Input) (c : Option Executed) :
    (t.elapse old i c).time = t.time.after t.cfg.tbEnabled (i.ticks.getD t.cfg.ticksPerStep) := by
  rw [State.elapse, State.afterTracing_time, State.ticks_time]
  simp only [State.pmEvaluate_time, State.pmEvaluate_cfg, State.count_time, State.count_cfg]

/-! ### The counters over a step (R585) -/

@[simp] theorem State.pmEvaluate_pmc (s : State) (event : Bool) (p : Sample) : (s.pmEvaluate event p).pm.pmc = s.pm.pmc := by
  unfold State.pmEvaluate
  split
  · dsimp only
    split <;> rfl
  · rfl

@[simp] theorem State.ticks_pmc (s : State) (n : Nat) : (s.ticks n).pm.pmc = s.pm.pmc := by
  induction n generalizing s with
  | zero => rfl
  | succ n ih =>
    rw [State.ticks, ih]
    exact State.pmEvaluate_pmc _ _ _

theorem State.elapse_pmc (t old : State) (i : Input) (c : Option Executed) :
    (t.elapse old i c).pm.pmc = (t.count old.msr ⟨c, i.events⟩).pm.pmc := by
  rw [State.elapse, State.afterTracing_pm, State.ticks_pmc, State.pmEvaluate_pmc]

/-! ### What a step adds to a counter (R581, R585, R587, R588) -/

/-- What freezes PMC1 to PMC4: FC1-4, TRIGGER but for PMC1, and FCWAIT where the event is a Branch Unit event (R587). -/
theorem State.frozen_lt_four {s : State} (m : Word) {i : Nat} (hi : i < 4) (branchUnit : Bool) : s.frozen m i branchUnit =
    (s.frozenAll m || bit s.pm.mmcr0 58 || (decide (0 < i) && bit s.pm.mmcr0 50)
      || (bit s.pm.mmcr0 62 && !hbit s.spr.ctrl 31 && branchUnit)) := by
  simp [State.frozen, State.mmcr0, hi, show ¬ 4 ≤ i by omega]

theorem State.frozen_ge_four {s : State} (m : Word) {i : Nat} (hi : 4 ≤ i) : s.frozen m i (s.pmBranchUnit i) =
    (s.frozenAll m || bit s.pm.mmcr0 59 || bit s.pm.mmcr0 50) := by
  simp [State.frozen, State.pmBranchUnit, State.mmcr0, hi, show ¬ i < 4 by omega, show 0 < i by omega]

theorem State.count_of_hasPmm {s : State} (hpmm : s.cfg.hasPmm = true) (m : Word) (h : Happened) : s.count m h =
    { s with pm := { s.pm with
        pmc := s.pm.pmc.mapIdx fun i x => counted (s.frozen m i (s.pmBranchUnit i)) x (s.pmIncrement h i) } } :=
  if_pos hpmm

/-- The row that the selector of one of PMC1 to PMC4 names, in the terms of the statements (R588). -/
theorem State.pmRow_eq (s : State) {i : Nat} (hi : i < 4) : s.pmRow i =
    s.cfg.pmEvents.find? fun r => r.pmc == i && r.code == s.pm.mmcr1.extractLsb' (24 - 8 * i) 8 := by
  rw [State.pmRow, pmSelector, field, show 64 - (32 + 8 * i) - 8 = 24 - 8 * i by omega]

/-- PMC1 to PMC4 count by their row, and nothing if there is none. -/
theorem State.counted_lt_four (s : State) (m : Word) (h : Happened) {i : Nat} (hi : i < 4) (x : Half) :
    counted (s.frozen m i (s.pmBranchUnit i)) x (s.pmIncrement h i) = (s.pmRow i).elim x fun r =>
      if s.frozenAll m || bit s.pm.mmcr0 58 || (decide (0 < i) && bit s.pm.mmcr0 50)
          || (bit s.pm.mmcr0 62 && !hbit s.spr.ctrl 31 && r.branchUnit)
        then x else x + h.times r.event := by
  rw [State.frozen_lt_four m hi, counted, State.pmBranchUnit, State.pmIncrement, State.pmEvent, if_pos hi]
  cases s.pmRow i with
  | none => simp
  | some r => simp [hi]

/-- PMC5 counts completed instructions. -/
theorem State.counted_pmc5 (s : State) (isFrozen : Bool) (h : Happened) (x : Half) :
    counted isFrozen x (s.pmIncrement h 4) = if isFrozen then x else if h.completed.isSome then x + 1 else x := by
  have hincrement : s.pmIncrement h 4 = if h.completed.isSome then 1 else 0 := rfl
  rw [hincrement, counted]
  cases h.completed <;> simp

/-! ### Alerts (R590, R591, R593, R594) -/

/-- MMCR0 after an enabled condition or event, with TRIGGER=0: FCECE sets FC (R590). -/
def State.frozenOnEvent (s : State) : State :=
  { s with pm := { s.pm with mmcr0 := if bit s.pm.mmcr0 38 then setBit s.pm.mmcr0 32 true else s.pm.mmcr0 } }

theorem State.frozenOnEvent_of_not {s : State} (h : bit s.pm.mmcr0 38 = false) : s.frozenOnEvent = s := by
  rw [State.frozenOnEvent, h]
  rfl

theorem State.bit_frozenOnEvent (s : State) {i : Nat} (hi : i < 64) :
    bit s.frozenOnEvent.pm.mmcr0 i = if i = 32 then bit s.pm.mmcr0 32 || bit s.pm.mmcr0 38 else bit s.pm.mmcr0 i := by
  unfold State.frozenOnEvent
  dsimp only
  split
  · rename_i h38
    rw [bit_setBit _ _ (by decide) hi, h38, Bool.or_true]
    simp only [eq_comm]
  · rename_i h38
    rw [eq_false_of_ne_true h38, Bool.or_false]
    split
    · rename_i h32
      rw [h32]
    · rfl

theorem State.bit_alert_mmcr0 (s : State) (p : Sample) {i : Nat} (hi : i < 64) :
    bit (s.alert p).pm.mmcr0 i = if i = 37 then false else if i = 56 then true else bit s.pm.mmcr0 i := by
  show bit (setBit (setBit s.pm.mmcr0 37 false) 56 true) i = _
  rw [bit_setBit _ _ (by decide) hi, bit_setBit _ _ (by decide) hi]
  grind

theorem State.bit_alert_mmcra (s : State) (p : Sample) {i : Nat} (hi : i < 64) :
    bit (s.alert p).pm.mmcra i = if i = 32 then p.ea.isSome else if i = 35 then hv p.msr else if i = 36 then pr p.msr
      else bit s.pm.mmcra i := by
  show bit (setBit (setBit (setBit s.pm.mmcra 32 p.ea.isSome) 35 (hv p.msr)) 36 (pr p.msr)) i = _
  rw [bit_setBit _ _ (by decide) hi, bit_setBit _ _ (by decide) hi, bit_setBit _ _ (by decide) hi]
  grind

/-- With no enabled condition or event, and TRIGGER=0, an evaluation changes nothing (R590). -/
theorem State.pmEvaluate_of_no_event {s : State} {event : Bool} (h50 : bit s.pm.mmcr0 50 = false)
    (hnone : (s.counterNegative || event) = false) (p : Sample) : s.pmEvaluate event p = s := by
  unfold State.pmEvaluate
  simp [hnone, triggered, h50]

/-- An enabled condition or event with TRIGGER=0: FCECE sets FC, and an alert follows if PMAE is 1 (R590, R591). -/
theorem State.pmEvaluate_of_event {s : State} {event : Bool} (hpmm : s.cfg.hasPmm = true) (h50 : bit s.pm.mmcr0 50 = false)
    (hsome : (s.counterNegative || event) = true) (p : Sample) :
    s.pmEvaluate event p = if bit s.pm.mmcr0 37 then s.frozenOnEvent.alert p else s.frozenOnEvent := by
  have htriggered : triggered s.pm.mmcr0 (hbit s.pm.pmc[0] 0) true = s.frozenOnEvent.pm.mmcr0 := by
    rw [triggered, h50]
    rfl
  have hpmae : s.frozenOnEvent.mmcr0 37 = bit s.pm.mmcr0 37 := s.bit_frozenOnEvent (by decide)
  unfold State.pmEvaluate
  dsimp only
  rw [if_pos hpmm, hsome, htriggered]
  show (if (true && s.frozenOnEvent.mmcr0 37) = true then s.frozenOnEvent.alert p else s.frozenOnEvent) = _
  rw [hpmae, Bool.true_and]

/-- MMCR0 after an evaluation with TRIGGER=0 (R590, R591). -/
theorem State.bit_pmEvaluate_mmcr0 {s : State} {event : Bool} (hpmm : s.cfg.hasPmm = true) (h50 : bit s.pm.mmcr0 50 = false)
    (p : Sample) {i : Nat} (hi : i < 64) : bit (s.pmEvaluate event p).pm.mmcr0 i =
      if i = 32 then bit s.pm.mmcr0 32 || ((s.counterNegative || event) && bit s.pm.mmcr0 38)
      else if i = 37 then bit s.pm.mmcr0 37 && !((s.counterNegative || event) && bit s.pm.mmcr0 37)
      else if i = 56 then bit s.pm.mmcr0 56 || ((s.counterNegative || event) && bit s.pm.mmcr0 37)
      else bit s.pm.mmcr0 i := by
  cases hevent : s.counterNegative || event with
  | false =>
    rw [State.pmEvaluate_of_no_event h50 hevent]
    simp only [Bool.false_and, Bool.or_false, Bool.not_false, Bool.and_true]
    split_ifs <;> simp_all
  | true =>
    rw [State.pmEvaluate_of_event hpmm h50 hevent]
    cases h37 : bit s.pm.mmcr0 37 with
    | false =>
      rw [if_neg Bool.false_ne_true, State.bit_frozenOnEvent _ hi]
      simp only [Bool.true_and, Bool.and_false, Bool.or_false, Bool.not_false]
      split_ifs <;> simp_all
    | true =>
      rw [if_pos rfl, State.bit_alert_mmcr0 _ _ hi, State.bit_frozenOnEvent _ hi]
      simp only [Bool.true_and, Bool.or_true]
      split_ifs <;> simp_all

/-- A tick with the Time Base enabled evaluates conditions and events with the timers advanced (R551, R590). -/
theorem State.tick_eq_pmEvaluate {s : State} (htb : s.cfg.tbEnabled = true) :
    ∃ u : State, s.tick = u.pmEvaluate (s.tbEvent s.time.tb (s.time.tb + 1)) s.lastSample
      ∧ u = { s with time := s.time.after true 1 } := by
  refine ⟨_, ?_, rfl⟩
  rw [State.tick, htb]
  rfl

/-- PMC1 just written is negative exactly when bit 32 of the value is 1 (R590). -/
theorem State.counterNegative_writeSpr_pmc1 {s : State} {v : Word} (h48 : bit s.pm.mmcr0 48 = true) (hv : bit v 32 = true) :
    (s.writeSpr (.pmc 0) v).counterNegative = true := by
  have hnegative : hbit (s.writeSpr (.pmc 0) v).pm.pmc[0] 0 = true := by
    show hbit (s.pm.pmc.set 0 (low v))[0] 0 = true
    rw [Vector.getElem_set_self, hbit, low, BitVec.getLsbD_setWidth, show v.getLsbD (31 - 0) = true from hv]
    rfl
  have henabled : (s.writeSpr (.pmc 0) v).mmcr0 48 = true := h48
  rw [State.counterNegative, henabled, hnegative]
  rfl

/-- Settles O40: both are evaluations with TRIGGER=0, of a condition and of an event. -/
theorem counterNegativeAlert : Obligations.CounterNegativeAlert := by
  refine ⟨fun rs s hp hpmm h37 h48 h50 h38 hv => ?_, ?_⟩
  · have hwrite : sprForWrite s.cfg 787 = some (.pmc 0, .yes) := by rw [sprForWrite_monitor hpmm (by simp)]; simp [perfSpr]
    have hcondition := State.counterNegative_writeSpr_pmc1 (s := s.advance) h48 hv
    have heval : s.moveToSpr (.pmc 0) (s.readGpr rs) =
        .next ((s.advance.writeSpr (.pmc 0) (s.readGpr rs)).alert ⟨s.cia, s.msr, none⟩) := by
      show Host.Outcome.next (State.pmEvaluate _ false _) = _
      rw [State.pmEvaluate_of_event (by exact hpmm) (by exact h50) (by rw [hcondition]; rfl),
        State.frozenOnEvent_of_not (by exact h38)]
      exact congrArg _ (if_pos h37)
    refine ⟨_, exec_mtspr_yes hp hwrite heval, rfl, fun hstale => ?_, rfl, fun i hi => ?_, fun i hi => ?_, rfl⟩
    · exact if_neg (Bool.eq_false_iff.mp hstale)
    · exact State.bit_alert_mmcr0 _ _ hi
    · rw [State.bit_alert_mmcra _ _ hi]
      have hpr : pr s.msr = false := hp
      rw [hpr]
      rfl
  · intro s hpmm htb h50 h48 h49 chosen event alert
    obtain ⟨u, htick, htime⟩ := State.tick_eq_pmEvaluate htb
    have hnone : u.counterNegative = false := by
      rw [htime]
      simp [State.counterNegative, State.mmcr0, h48, h49]
    have hevent : s.tbEvent s.time.tb (s.time.tb + 1) = event := rfl
    have hpm : u.pm = s.pm := by rw [htime]
    have hcfg : u.cfg.hasPmm = true := by rw [htime]; exact hpmm
    have hbits {i : Nat} (hi : i < 64) :=
      State.bit_pmEvaluate_mmcr0 (event := event) hcfg (by rw [hpm]; exact h50) s.lastSample hi
    rw [hevent] at htick
    rw [hpm, hnone, Bool.false_or] at hbits
    rw [htick]
    refine ⟨fun hevent => ?_, fun i hi => hbits hi, fun halert => ?_⟩
    · rw [State.pmEvaluate_of_no_event (by rw [hpm]; exact h50) (by rw [hnone, hevent]; rfl), hpm]
    · obtain ⟨hevent, h37⟩ := (Bool.and_eq_true _ _).mp halert
      rw [State.pmEvaluate_of_event hcfg (by rw [hpm]; exact h50) (by rw [hevent, Bool.or_true]),
        if_pos (by rw [hpm]; exact h37)]
      refine ⟨rfl, fun a ha => ?_, State.bit_alert_mmcra _ _ (by decide), State.bit_alert_mmcra _ _ (by decide),
        State.bit_alert_mmcra _ _ (by decide)⟩
      show s.run.lastEa.getD _ = a
      rw [ha]
      rfl

/-! ### Maskable interrupts (R472, R486, R487, R492, R501) -/

theorem mem_if_singleton {k x : IntKind} {b : Bool} : (k ∈ if b then [x] else []) ↔ k = x ∧ b = true := by
  cases b <;> simp

theorem State.mem_pendingInterrupts (s : State) (k : IntKind) : k ∈ s.pendingInterrupts ↔
    ((k = .hypDecrementer ∧ s.hdecPending = true) ∨ (k = .external ∧ (s.pend.external && ee s.msr) = true)
      ∨ (k = .decrementer ∧ (hbit s.time.dec 0 && ee s.msr) = true))
      ∨ (k = .perfMonitor ∧ (s.cfg.hasPmm && s.mmcr0 56 && ee s.msr) = true) := by
  simp only [State.pendingInterrupts, List.mem_append, mem_if_singleton, or_assoc]

/-- A boundary at which a maskable interrupt is the first thing pending takes one of those pending (R501 step 3). -/
theorem State.boundary_of_pending {s : State} (hreset : s.pend.sysReset = none) (hrunning : s.checkstop = false)
    (hmc : s.pend.machineCheck = none) (hrmi : s.rmiProper = true) (hpending : s.pendingInterrupts ≠ []) (i : Input) :
    ∃ k ∈ s.pendingInterrupts, s.boundary i = .next (((s.drawn 1).takePending k).elapse s i none) := by
  obtain ⟨k, ks, hks⟩ := List.exists_cons_of_ne_nil hpending
  refine ⟨pickOne k ks s.run.draws, hks ▸ pickOne_mem k ks _, ?_⟩
  rw [State.boundary, hreset, hrunning, hmc, hrmi, hks]
  rfl

/-- Evaluating conditions and events clears neither PMAO nor the exception that it stands for (R591, R492). -/
theorem State.pmEvaluate_pmao {s : State} (h : bit s.pm.mmcr0 56 = true) (event : Bool) (p : Sample) :
    bit (s.pmEvaluate event p).pm.mmcr0 56 = true := by
  have htriggered (n e : Bool) : bit (triggered s.pm.mmcr0 n e) 56 = true := by
    unfold triggered
    split_ifs <;> simp [bit_setBit, h]
  unfold State.pmEvaluate
  split
  · dsimp only
    split
    · exact State.bit_alert_mmcr0 _ _ (by decide)
    · exact htriggered _ _
  · exact h

theorem State.tick_pmao {s : State} (h : bit s.pm.mmcr0 56 = true) : bit s.tick.pm.mmcr0 56 = true := by
  unfold State.tick
  apply State.pmEvaluate_pmao
  exact h

theorem State.ticks_pmao {s : State} (h : bit s.pm.mmcr0 56 = true) (n : Nat) : bit (s.ticks n).pm.mmcr0 56 = true := by
  induction n generalizing s with
  | zero => exact h
  | succ n ih => exact ih (State.tick_pmao h)

theorem State.elapse_pmao {t : State} (h : bit t.pm.mmcr0 56 = true) (old : State) (i : Input) (c : Option Executed) :
    bit (t.elapse old i c).pm.mmcr0 56 = true := by
  have hcount : bit (t.count old.msr ⟨c, i.events⟩).pm.mmcr0 56 = true := by rw [State.count_mmcr0]; exact h
  rw [State.elapse, State.afterTracing_pm]
  exact State.ticks_pmao (State.pmEvaluate_pmao hcount _ _) _

/-- Before a step in which the environment does nothing, only the TLB and the model's own fields may change. -/
theorem State.present_of_no_inputs {s : State} (h : s.run.inputs = []) :
    ∃ tlb run, s.present = { s with tlb := tlb, run := run } := by
  have hinput : s.input = .quiet := by simp [State.input, h]
  obtain ⟨tlb, run, hpresent⟩ := State.present_of_no_stores (by rw [hinput]; rfl)
  refine ⟨tlb, run, ?_⟩
  rw [hpresent, hinput]
  simp [Pending.present, Input.quiet]

theorem srr1Of_eq (m info : Word) : srr1Of m info = (m &&& ~~~0x783F0000) ||| (info &&& 0x783F0000) := rfl

/-- SRR1 or HSRR1 of a maskable interrupt: only the Performance Monitor's carries information (R472, R486, R487, R492). -/
theorem State.srr1Of_pendingInfo {s : State} {k : IntKind} (h : k ∈ s.pendingInterrupts) : srr1Of s.msr (s.pendingInfo k) =
    (s.msr &&& ~~~0x783F0000) ||| (if k = .perfMonitor then s.cfg.pmSrr1Info &&& 0x783F0000 else 0) := by
  have hinfo : s.pendingInfo k &&& 0x783F0000 = if k = .perfMonitor then s.cfg.pmSrr1Info &&& 0x783F0000 else 0 := by
    rw [State.mem_pendingInterrupts] at h
    obtain (⟨rfl, -⟩ | ⟨rfl, -⟩ | ⟨rfl, -⟩) | ⟨rfl, -⟩ := h
    · exact BitVec.zero_and
    · exact BitVec.zero_and
    · exact BitVec.zero_and
    · rfl
  rw [srr1Of_eq, hinfo]

/-- Settles O22: the interrupt taken is one of those pending, and the exceptions stand in registers that it leaves alone. -/
theorem maskableInterruptTaken : Obligations.MaskableInterruptTaken := by
  refine ⟨fun s k => ?_, fun s hundisturbed hpending => ?_⟩
  · rw [State.mem_pendingInterrupts]
    simp only [State.hdecPending, State.mmcr0, hdice, Bool.and_eq_true, Bool.or_eq_true, Bool.not_eq_true', or_assoc, and_assoc]
  · obtain ⟨hrmi, hinputs, hreset, hmc, hrunning⟩ := hundisturbed
    obtain ⟨tlb, run, hpresent⟩ := State.present_of_no_inputs hinputs
    have hinput : s.input = .quiet := by simp [State.input, hinputs]
    obtain ⟨k, hk, hboundary⟩ := State.boundary_of_pending (s := s.present) (by rw [hpresent]; exact hreset)
      (by rw [hpresent]; exact hrunning) (by rw [hpresent]; exact hmc) (by rw [hpresent]; exact hrmi)
      (by rw [hpresent]; exact hpending) s.input
    have hmem : k ∈ s.pendingInterrupts := by rw [hpresent] at hk; exact hk
    refine ⟨k, _, hmem, hboundary, ?_⟩
    have htime := ((s.present.drawn 1).takePending k).elapse_time s.present s.input none
    have hpmao := State.elapse_pmao (t := (s.present.drawn 1).takePending k) (old := s.present) (i := s.input) (c := none)
    obtain ⟨time, pm, run', helapse, -⟩ := ((s.present.drawn 1).takePending k).elapse_eq s.present s.input none
    rw [helapse] at htime hpmao ⊢
    rw [hpresent] at htime hpmao ⊢
    rw [hinput] at htime
    have hspr := s.takeInterrupt_spr k s.cia (s.pendingInfo k)
    rw [State.ea32_cia, State.srr1Of_pendingInfo hmem] at hspr
    refine ⟨⟨rfl, rfl⟩, rfl, rfl, rfl, rfl, rfl, ?_, ?_, hpmao, hspr⟩
    · exact congrArg Timers.dec htime
    · exact congrArg Timers.hdec htime

end Sys2Proof.Machine
end

section
/-! PROOFS. The rest of a step after its instruction: the boundary where nothing intervenes (O4), what the step adds (O6, O39),
and the interrupts that follow a completed instruction (O23). -/

namespace Sys2Proof.Machine

/-! ### The boundary where nothing intervenes (R501) -/

theorem step_of_ready {s t : State} {w : Half} (hready : s.ready) (hfetch : s.present.fetch = .ok w t) :
    step s = t.runWord w s.present s.input := by
  obtain ⟨hrmi, hsettled, hreset, hrunning, hmc, hpending⟩ := hready
  rw [step, State.boundary, hreset, hrunning, hmc, hrmi, hpending]
  show require s.present.settled _ _ = _
  rw [hsettled, hfetch]
  rfl

theorem step_of_decode {s t : State} {w : Half} {x : Instr} (hready : s.ready) (hfetch : s.present.fetch = .ok w t)
    (hword : decode w = .ok x) : step s = finishResult (exec x t) s.present s.input (executedInstr x) := by
  rw [step_of_ready hready hfetch, State.runWord, hword]

theorem step_of_outside {s t : State} {w : Half} {e : DecodeError} (hready : s.ready) (hfetch : s.present.fetch = .ok w t)
    (hword : decode w = .error e) (hforeign : decodeForeign w = none) :
    step s = finishResult (execBase (decodeOutside w) w s.input.base t) s.present s.input
      (executedOutside (decodeOutside w) w s.input.base s.present) := by
  rw [step_of_ready hready hfetch, State.runWord, hword]
  show State.runForeign _ _ _ _ = _
  rw [State.runForeign, hforeign]

/-- Settles O4: at such a boundary the word fetched is run. -/
theorem stepRunsDecodedInstruction : Obligations.StepRunsDecodedInstruction :=
  ⟨fun _ _ _ _ => step_of_decode, fun _ _ _ _ => step_of_outside⟩

theorem finishResult_of_proper {v old : State} (hdiffer : attributesDiffer old v = false) (hrmi : v.rmiProper = true) (i : Input)
    (x : Executed) : finishResult (.next v) old i x = .next (v.finish old i x) := by
  rw [finishResult, hdiffer, hrmi]
  rfl

theorem finishResult_of_improper {v old : State} (hdiffer : attributesDiffer old v = false) (hrmi : v.rmiProper = false)
    (i : Input) (x : Executed) : finishResult (.next v) old i x = .refused .realModeInhibited := by
  rw [finishResult, hdiffer, hrmi]
  rfl

/-! ### The rest of a step -/

/-- What the step records of the instruction before it counts: its accesses, the side effect on HSRR0 and HSRR1, the context of
instruction fetch and the sampled instruction. -/
def State.noted (t old : State) (x : Executed) : State :=
  if t.run.trapped then
    if x.isCall then ((t.remember old).sideEffect x).complete old else t.remember old
  else (((t.remember old).sideEffect x).synchronize old x).complete old

/-- What the step counts as completed: not an instruction that took an interrupt, unless it is `sc` (R302, R488). -/
def Executed.completedIn (x : Executed) (t : State) : Option Executed := if t.run.trapped && !x.isCall then none else some x

theorem State.finish_of_trapped {t : State} (h : t.run.trapped = true) (old : State) (i : Input) (x : Executed) :
    t.finish old i x = (t.noted old x).elapse old i (x.completedIn t) := by
  simp only [State.finish, State.noted, Executed.completedIn, h, if_true, Bool.true_and]
  cases x.isCall <;> rfl

theorem State.finish_of_not_trapped {t : State} (h : t.run.trapped = false) (old : State) (i : Input) (x : Executed) :
    t.finish old i x = ((t.noted old x).elapse old i (x.completedIn t)).afterwards old x := by
  simp only [State.finish, State.noted, Executed.completedIn, h, Bool.false_and]
  rfl

/-- HSRR0 and HSRR1 are left alone: the instruction is in the list of R459, or took an interrupt and is not `sc`. -/
def KeepsHsrr (t : State) (x : Executed) : Prop := x.keepsHsrr = true ∨ (t.run.trapped = true ∧ x.isCall = false)

theorem State.sideEffect_eq (t : State) (x : Executed) : ∃ h0 h1 run,
    t.sideEffect x = { t with spr := { t.spr with hsrr0 := h0, hsrr1 := h1 }, run := run }
      ∧ (x.keepsHsrr = true → h0 = t.spr.hsrr0 ∧ h1 = t.spr.hsrr1) := by
  unfold State.sideEffect
  split
  · exact ⟨_, _, _, rfl, fun _ => ⟨rfl, rfl⟩⟩
  · exact ⟨_, _, _, rfl, fun h => absurd h ‹_›⟩

theorem State.noted_eq (t old : State) (x : Executed) : ∃ h0 h1 run,
    t.noted old x = { t with spr := { t.spr with hsrr0 := h0, hsrr1 := h1 }, run := run }
      ∧ (KeepsHsrr t x → h0 = t.spr.hsrr0 ∧ h1 = t.spr.hsrr1) := by
  obtain ⟨h0, h1, run, he, hkept⟩ := (t.remember old).sideEffect_eq x
  unfold State.noted
  rw [he]
  split
  · split
    · rename_i htrapped hcall
      refine ⟨_, _, _, rfl, fun h => ?_⟩
      obtain h | ⟨-, hnot⟩ := h
      · exact hkept h
      · rw [hcall] at hnot
        cases hnot
    · exact ⟨_, _, _, rfl, fun _ => ⟨rfl, rfl⟩⟩
  · rename_i htrapped
    refine ⟨_, _, _, rfl, fun h => ?_⟩
    obtain h | ⟨h, -⟩ := h
    · exact hkept h
    · exact absurd h htrapped

/-- Counting goes by registers that the side effect and the model's own fields do not touch. -/
theorem State.count_pmc_of_noted (v : State) (h0 h1 m : Word) (run : Run) (h : Happened) :
    (State.count { v with spr := { v.spr with hsrr0 := h0, hsrr1 := h1 }, run := run } m h).pm.pmc = (v.count m h).pm.pmc := by
  unfold State.count
  split <;> rfl

/-- Once a step has counted and time has passed, HSRR0 and HSRR1, the timers, the Performance Monitor and the model's own fields
may differ from what the instruction left. -/
theorem State.noted_elapse_eq (v old : State) (i : Input) (x : Executed) (c : Option Executed) : ∃ h0 h1 pm run,
    (v.noted old x).elapse old i c = { v with
      spr := { v.spr with hsrr0 := h0, hsrr1 := h1 }
      time := v.time.after v.cfg.tbEnabled (i.ticks.getD v.cfg.ticksPerStep), pm := pm, run := run }
      ∧ (KeepsHsrr v x → h0 = v.spr.hsrr0 ∧ h1 = v.spr.hsrr1)
      ∧ pm.pmc = (v.count old.msr ⟨c, i.events⟩).pm.pmc := by
  have htime := (v.noted old x).elapse_time old i c
  have hpmc := (v.noted old x).elapse_pmc old i c
  obtain ⟨time, pm, run, he, -⟩ := (v.noted old x).elapse_eq old i c
  obtain ⟨h0, h1, run', hnoted, hkept⟩ := v.noted_eq old x
  rw [he] at htime hpmc ⊢
  rw [hnoted] at htime hpmc ⊢
  rw [State.count_pmc_of_noted] at hpmc
  exact ⟨h0, h1, pm, run, congrArg (fun time => ({ v with
    spr := { v.spr with hsrr0 := h0, hsrr1 := h1 }, time := time, pm := pm, run := run } : State)) htime, hkept, hpmc⟩

/-- No interrupt follows the instruction (R482, R490). -/
def NoneFollows (t old : State) (x : Executed) : Prop :=
  (x.changesFe && fpEnabled t.msr t.bookI.fpscr) = false ∧ tracedBy old.cfg old.msr x = false

theorem State.traceSamples_eq (t old : State) : ∃ pm run,
    t.traceSamples old = { t with pm := pm, run := run } ∧ pm.pmc = t.pm.pmc := by
  unfold State.traceSamples
  split <;> exact ⟨_, _, rfl, rfl⟩

/-- What follows a completed instruction: nothing, or an interrupt that saves in SRR0 and SRR1 (R501 step 8). -/
theorem State.afterwards_eq (t old : State) (x : Executed) : ∃ nia msr srr0 srr1 pm run,
    t.afterwards old x = { t with
      nia := nia, msr := msr, spr := { t.spr with srr0 := srr0, srr1 := srr1 }, pm := pm, run := run }
      ∧ pm.pmc = t.pm.pmc
      ∧ (NoneFollows t old x → nia = t.nia ∧ msr = t.msr ∧ srr0 = t.spr.srr0 ∧ srr1 = t.spr.srr1) := by
  unfold State.afterwards
  split
  · rename_i hfp
    exact ⟨_, _, _, _, _, _, rfl, rfl, fun ⟨hnot, _⟩ => absurd (hnot.symm.trans hfp) Bool.false_ne_true⟩
  · split
    · rename_i htraced
      obtain ⟨pm, run, he, hpmc⟩ := t.traceSamples_eq old
      rw [he]
      exact ⟨_, _, _, _, _, _, rfl, hpmc, fun ⟨_, hnot⟩ => absurd (hnot.symm.trans htraced) Bool.false_ne_true⟩
    · exact ⟨_, _, _, _, _, _, rfl, rfl, fun _ => ⟨rfl, rfl, rfl, rfl⟩⟩

/-- The rest of a step: what it may alter, and when it leaves which register. -/
theorem State.finish_eq (v old : State) (i : Input) (x : Executed) : ∃ nia msr srr0 srr1 h0 h1 pm run,
    v.finish old i x = { v with
      nia := nia, msr := msr, spr := { v.spr with srr0 := srr0, srr1 := srr1, hsrr0 := h0, hsrr1 := h1 }
      time := v.time.after v.cfg.tbEnabled (i.ticks.getD v.cfg.ticksPerStep), pm := pm, run := run }
      ∧ (KeepsHsrr v x → h0 = v.spr.hsrr0 ∧ h1 = v.spr.hsrr1)
      ∧ pm.pmc = (v.count old.msr ⟨x.completedIn v, i.events⟩).pm.pmc
      ∧ (v.run.trapped = true ∨ NoneFollows v old x →
          nia = v.nia ∧ msr = v.msr ∧ srr0 = v.spr.srr0 ∧ srr1 = v.spr.srr1) := by
  obtain ⟨h0, h1, pm, run, hw, hkept, hpmc⟩ := v.noted_elapse_eq old i x (x.completedIn v)
  cases htrapped : v.run.trapped with
  | true =>
    rw [State.finish_of_trapped htrapped, hw]
    exact ⟨_, _, _, _, _, _, _, _, rfl, hkept, hpmc, fun _ => ⟨rfl, rfl, rfl, rfl⟩⟩
  | false =>
    rw [State.finish_of_not_trapped htrapped, hw]
    generalize hw' : ({ v with spr := _, time := _, pm := pm, run := run } : State) = w'
    obtain ⟨nia, msr, srr0, srr1, pm', run', he, hpmc', hnone⟩ := w'.afterwards_eq old x
    rw [he]
    subst hw'
    exact ⟨_, _, _, _, _, _, _, _, rfl, hkept, hpmc'.trans hpmc, fun h => hnone (h.resolve_left Bool.false_ne_true)⟩

/-! ### The instructions of Book III as they are traced (R482, R490) -/

theorem executedInstr_isBranch (x : Instr) : (executedInstr x).isBranch = false := by cases x <;> rfl

theorem executedInstr_isReturn {x : Instr} (hrfid : x ≠ .rfid) (hhrfid : x ≠ .hrfid) : (executedInstr x).isReturn = false := by
  cases x with
  | rfid => exact absurd rfl hrfid
  | hrfid => exact absurd rfl hhrfid
  | _ => rfl

/-- With SE=0 only Branches are traced. -/
theorem tracedBy_of_not_se (c : Params) {m : Word} {x : Executed} (hse : se m = false) (hbranch : x.isBranch = false) :
    tracedBy c m x = false := by
  simp [tracedBy, hse, hbranch]

/-- Settles O6: the rest of the step is `State.finish_eq`. -/
theorem stepAddsOnlyTimeAndTraps : Obligations.StepAddsOnlyTimeAndTraps := by
  intro s t v w x hready hfetch hword hexec hdiffer
  have hstep := step_of_decode hready hfetch hword
  rw [hexec] at hstep
  refine ⟨fun hrmi => hstep.trans (finishResult_of_improper hdiffer hrmi _ _), fun hrmi =>
    ⟨_, hstep.trans (finishResult_of_proper hdiffer hrmi _ _), ?_⟩⟩
  obtain ⟨nia, msr, srr0, srr1, h0, h1, pm, run, he, hkept, -, hnone⟩ := v.finish_eq s.present s.input (executedInstr x)
  rw [he]
  refine ⟨rfl, rfl, rfl, rfl, rfl, rfl, rfl, rfl, rfl, rfl, rfl, hkept, ⟨rfl, rfl, rfl, rfl⟩, fun h => hnone (h.imp_right ?_)⟩
  rintro ⟨hse, hfp⟩
  exact ⟨hfp, tracedBy_of_not_se _ (by rw [State.present_msr]; exact hse) (executedInstr_isBranch x)⟩

/-- Settles O39: `State.count` counter by counter; of the rest of a step nothing else touches the counters. -/
theorem monitorCounts : Obligations.MonitorCounts := by
  refine ⟨?_, fun s m h hpmm => if_neg (by simp [hpmm]), ?_⟩
  · intro s m h hpmm on all
    have hall : s.frozenAll m = all := rfl
    refine ⟨_, State.count_of_hasPmm hpmm m h, ?_, ?_, fun i => ?_⟩
    · rw [Vector.getElem_mapIdx, State.frozen_ge_four m (by decide), hall]
      rfl
    · rw [Vector.getElem_mapIdx, State.frozen_ge_four m (by decide), hall]
      exact s.counted_pmc5 _ h _
    · intro row
      have hrow : s.pmRow i = row := s.pmRow_eq i.isLt
      rw [Vector.getElem_mapIdx, State.counted_lt_four s m h i.isLt, hall, hrow]
      cases row <;> rfl
  · intro s t u v w x hready hfetch hword hexec hstep
    rw [step_of_decode hready hfetch hword, hexec] at hstep
    obtain ⟨v', hv, -, -, rfl⟩ := finishResult_next hstep
    cases hv
    obtain ⟨nia, msr, srr0, srr1, h0, h1, pm, run, he, -, hpmc, -⟩ := v.finish_eq s.present s.input (executedInstr x)
    rw [he, ← s.present_msr]
    exact hpmc

/-! ### Interrupts that follow a completed instruction (R482, R490, R501) -/

/-- The interrupt of kind `k` follows an instruction that left the state `v`: it saves the address of the next instruction. -/
structure FollowedBy (t v : State) (k : IntKind) (info : Word) : Prop where
  entered : t.enteredFrom v k
  srr0 : t.spr.srr0 = v.cia
  srr1 : t.spr.srr1 = (v.msr &&& ~~~0x783F0000) ||| (info &&& 0x783F0000)
  gpr : t.gpr = v.gpr
  mem : t.mem = v.mem

theorem State.takeInterrupt_followedBy (t : State) {k : IntKind} (hk : k ≠ .hypDecrementer) (info : Word) :
    FollowedBy (t.takeInterrupt k t.cia info) t k info := by
  have hspr := t.takeInterrupt_spr k t.cia info
  rw [if_neg hk, State.ea32_cia] at hspr
  exact ⟨⟨rfl, rfl⟩, congrArg Sprs.srr0 hspr, congrArg Sprs.srr1 hspr, rfl, rfl⟩

theorem State.afterwards_of_fpEnabled {t : State} {x : Executed} (h : (x.changesFe && fpEnabled t.msr t.bookI.fpscr) = true)
    (old : State) : FollowedBy (t.afterwards old x) t .program (programInfo .fpEnabled) := by
  rw [State.afterwards, if_pos h]
  exact t.takeInterrupt_followedBy (by decide) _

theorem State.afterwards_of_traced {t old : State} {x : Executed} (hfp : (x.changesFe && fpEnabled t.msr t.bookI.fpscr) = false)
    (h : tracedBy old.cfg old.msr x = true) : FollowedBy (t.afterwards old x) t .trace (traceInfo old.cfg x) := by
  obtain ⟨pm, run, he, -⟩ := t.traceSamples_eq old
  rw [State.afterwards, if_neg (Bool.eq_false_iff.mp hfp), if_pos h, he]
  obtain ⟨hentered, hsrr0, hsrr1, hgpr, hmem⟩ := State.takeInterrupt_followedBy { t with pm := pm, run := run }
    (k := .trace) (by decide) (traceInfo old.cfg x)
  exact ⟨hentered, hsrr0, hsrr1, hgpr, hmem⟩

/-- Counting and the passing of time change nothing that the interrupt depends on. -/
theorem State.finish_of_fpEnabled {v : State} {x : Executed} (hrun : v.run.trapped = false)
    (h : (x.changesFe && fpEnabled v.msr v.bookI.fpscr) = true) (old : State) (i : Input) :
    FollowedBy (v.finish old i x) v .program (programInfo .fpEnabled) := by
  obtain ⟨h0, h1, pm, run, hw, -, -⟩ := v.noted_elapse_eq old i x (x.completedIn v)
  rw [State.finish_of_not_trapped hrun, hw]
  obtain ⟨hentered, hsrr0, hsrr1, hgpr, hmem⟩ := State.afterwards_of_fpEnabled (t := { v with
    spr := { v.spr with hsrr0 := h0, hsrr1 := h1 }, time := _, pm := pm, run := run }) h old
  exact ⟨hentered, hsrr0, hsrr1, hgpr, hmem⟩

theorem State.finish_of_traced {v old : State} {x : Executed} (hrun : v.run.trapped = false)
    (hfp : (x.changesFe && fpEnabled v.msr v.bookI.fpscr) = false) (h : tracedBy old.cfg old.msr x = true) (i : Input) :
    FollowedBy (v.finish old i x) v .trace (traceInfo old.cfg x) := by
  obtain ⟨h0, h1, pm, run, hw, -, -⟩ := v.noted_elapse_eq old i x (x.completedIn v)
  rw [State.finish_of_not_trapped hrun, hw]
  obtain ⟨hentered, hsrr0, hsrr1, hgpr, hmem⟩ := State.afterwards_of_traced (t := { v with
    spr := { v.spr with hsrr0 := h0, hsrr1 := h1 }, time := _, pm := pm, run := run }) hfp h
  exact ⟨hentered, hsrr0, hsrr1, hgpr, hmem⟩

theorem tracedBy_of_se {c : Params} {m : Word} {x : Executed} (hext : c.hasTraceExt = false) (hse : se m = true)
    (hreturn : x.isReturn = false) : tracedBy c m x = true := by
  simp [tracedBy, hext, hse, hreturn]

/-- A Branch is traced with SE or BE, with the Trace extensions and without (R490, R611). -/
theorem tracedBy_of_isBranch (c : Params) {m : Word} {x : Executed} (hbranch : x.isBranch = true) (hreturn : x.isReturn = false)
    (h : (se m || be m) = true) : tracedBy c m x = true := by
  unfold tracedBy
  split
  · simp [hbranch, hreturn]
  · simpa [hbranch, hreturn] using h

/-- A Branch as the environment gives it. -/
def executedBranch (taken : Bool) : Executed := { Executed.plain with keepsHsrr := true, isBranch := true, taken := taken }

/-- With the Trace extensions SRR1[44] tells a Branch taken (R612). -/
theorem traceInfo_executedBranch (c : Params) (taken : Bool) : traceInfo c (executedBranch taken) &&& 0x783F0000 =
    if c.hasTraceExt then (if taken then 0x80000 else 0) else c.traceSrr1Info &&& 0x783F0000 := by
  unfold traceInfo
  split
  · cases taken <;> decide
  · rfl

theorem ea32_and_not_three (m a : Word) : ea32 m (a &&& ~~~3) &&& ~~~3 = ea32 m a &&& ~~~3 := by
  unfold ea32
  split
  · rw [BitVec.and_assoc, BitVec.and_self]
  · apply BitVec.eq_of_getLsbD_eq
    intro i hi
    simp only [zext, low, BitVec.getLsbD_setWidth, BitVec.getLsbD_and, BitVec.getLsbD_not, Bool.and_assoc]
    cases ((3 : Word).getLsbD i) <;> simp

@[simp] theorem State.present_trapped (s : State) : s.present.run.trapped = false := by
  obtain ⟨b, tlb, run, he, htrapped⟩ := s.present_eq
  rw [he]
  exact htrapped

/-- The state that a Branch leaves, as the environment gives its effect. -/
def State.branched (s : State) (e : BaseEffect) : State := { s.applied e with nia := e.nia &&& ~~~(3#64) }

theorem execBase_branch (w : Half) (e : BaseEffect) (s : State) :
    execBase .branch w (some (.runs e)) s = .next (s.branched e) := rfl

theorem executedOutside_branch (w : Half) (e : BaseEffect) (s : State) :
    executedOutside .branch w (some (.runs e)) s = executedBranch e.taken := rfl

theorem State.cia_branched (s : State) (e : BaseEffect) : (s.branched e).cia = ea32 s.msr e.nia &&& ~~~3 :=
  ea32_and_not_three s.msr e.nia

theorem attributesDiffer_branched (s t : State) (e : BaseEffect) :
    attributesDiffer s (t.branched e) = attributesDiffer s t := rfl

/-- A Branch at a boundary where nothing intervenes. -/
theorem step_of_branch {s u : State} {w : Half} {d : DecodeError} {e : BaseEffect} (hready : s.ready)
    (hfetch : s.present.fetch = .ok w u) (hword : decode w = .error d) (hforeign : decodeForeign w = none)
    (houtside : decodeOutside w = .branch) (hbase : s.input.base = some (.runs e)) (hdiffer : attributesDiffer s.present u = false) :
    step s = .next ((u.branched e).finish s.present s.input (executedBranch e.taken)) := by
  have hrmi : (u.branched e).rmiProper = true := by
    obtain ⟨hrmi, -⟩ := hready
    obtain ⟨m, tlb, run, rfl, -⟩ := State.fetch_ok hfetch
    exact hrmi
  rw [step_of_outside hready hfetch hword hforeign, houtside, hbase, execBase_branch, executedOutside_branch]
  exact finishResult_of_proper ((attributesDiffer_branched _ u e).trans hdiffer) hrmi _ _

/-- Settles O23: which interrupt follows is decided by the instruction's kind and the MSR before it; a Branch goes where the
environment says. -/
theorem exceptionsAfterCompletion : Obligations.ExceptionsAfterCompletion := by
  refine ⟨?_, ?_⟩
  · intro s u v w x hready hfetch hword hexec hrun hdiffer hrmi enabled
    have hstep := step_of_decode hready hfetch hword
    rw [hexec, finishResult_of_proper hdiffer hrmi] at hstep
    refine ⟨fun hfp hse hext hrfid hhrfid => ⟨_, hstep, ?_⟩, fun hfp => ⟨_, hstep, ?_⟩⟩
    · have htraced : tracedBy s.present.cfg s.present.msr (executedInstr x) = true := by
        rw [State.present_cfg, State.present_msr]
        exact tracedBy_of_se hext hse (executedInstr_isReturn hrfid hhrfid)
      have hinfo : traceInfo s.present.cfg (executedInstr x) = s.cfg.traceSrr1Info := by
        rw [State.present_cfg, traceInfo, hext]
        rfl
      obtain ⟨⟨hnia, hmsr⟩, hsrr0, hsrr1, hgpr, hmem⟩ := State.finish_of_traced hrun hfp htraced s.input
      exact ⟨hnia, hmsr, hsrr0, hinfo ▸ hsrr1, hgpr, hmem⟩
    · obtain ⟨⟨hnia, hmsr⟩, hsrr0, hsrr1, hgpr, hmem⟩ := State.finish_of_fpEnabled hrun hfp s.present s.input
      exact ⟨hnia, hmsr, hsrr0, hsrr1, hgpr, hmem⟩
  · intro s u w d e hready hfetch hword hforeign houtside hbase hdiffer htrace
    have htraced : tracedBy s.present.cfg s.present.msr (executedBranch e.taken) = true :=
      tracedBy_of_isBranch _ rfl rfl (by rw [State.present_msr]; exact htrace)
    have hstart : u.msr = s.msr ∧ u.spr = s.spr ∧ u.cfg = s.cfg ∧ u.run.trapped = false := by
      obtain ⟨m, tlb, run, rfl, hrun⟩ := State.fetch_ok hfetch
      exact ⟨s.present_msr, s.present_spr, s.present_cfg, hrun.trans s.present_trapped⟩
    obtain ⟨hustart, huspr, hucfg, hurun⟩ := hstart
    obtain ⟨⟨hnia, hmsr⟩, hsrr0, hsrr1, hgpr, hmem⟩ :=
      State.finish_of_traced (v := u.branched e) (x := executedBranch e.taken) hurun rfl htraced s.input
    rw [State.present_cfg, traceInfo_executedBranch] at hsrr1
    rw [State.cia_branched, hustart] at hsrr0
    have hvmsr : (u.branched e).msr = s.msr := hustart
    have hvcfg : (u.branched e).cfg = s.cfg := hucfg
    have hvspr : (u.branched e).spr = s.spr := huspr
    rw [hvmsr, hvcfg, hvspr] at hmsr
    rw [hvmsr] at hsrr1
    exact ⟨_, step_of_branch hready hfetch hword hforeign houtside hbase hdiffer, hnia, hmsr, hsrr0, hsrr1, hgpr, hmem⟩

end Sys2Proof.Machine
end

section
/-! PROOFS. Moves to the hypervisor's registers (O37). -/

namespace Sys2Proof.Machine

/-! ### The supported offsets (R8, R44, R45) -/

/-- An offset is a multiple of its granularity exactly when its low-order bits are zeros. -/
theorem and_lowMask_eq_zero (v : Word) (k : Nat) (h : v.toNat % 2 ^ k = 0) : v &&& ((1#64 <<< k) - 1) = 0 := by
  apply BitVec.eq_of_toNat_eq
  by_cases hk : k < 64
  · exact (and_lowMask_toNat v hk).trans h
  · have hlarge : v.toNat < 2 ^ k := v.isLt.trans_le (Nat.pow_le_pow_right (by decide) (Nat.le_of_not_lt hk))
    rw [Nat.mod_eq_of_lt hlarge] at h
    rw [BitVec.toNat_and, h, Nat.zero_and]
    rfl

/-- An HRMOR below 2^m has none of the bits that a real address of m bits lacks. -/
theorem and_rmorMask_and_not_realMask (c : Params) (v : Word) (h : v.toNat % 2 ^ 62 < 2 ^ c.realBits) :
    v &&& rmorMask &&& ~~~realMask c = 0 := by
  have haddress := (and_not_realMask_eq_zero_iff c (v.setWidth 62)).mpr (by rw [BitVec.toNat_setWidth]; exact h)
  apply BitVec.eq_of_getLsbD_eq
  intro i hi
  by_cases hlow : i < 62
  · have hbit := congrArg (·.getLsbD i) haddress
    simp only [BitVec.getLsbD_and, BitVec.getLsbD_not, BitVec.getLsbD_setWidth, hlow, hi, decide_true, Bool.true_and] at hbit ⊢
    rw [Bool.and_right_comm, hbit]
    simp
  · have hmask : rmorMask.getLsbD i = false := by
      interval_cases i <;> rfl
    simp [hmask]

/-- LPCR[LPES] is not the reserved value (R42). -/
theorem lpes_allowed {v : Word} (h : field v 60 2 ≠ 2) : (lpes0 v && !lpes1 v) = false := by
  rw [Bool.eq_false_iff]
  intro hreserved
  obtain ⟨h0, h1⟩ := (Bool.and_eq_true _ _).mp hreserved
  rw [Bool.not_eq_true'] at h1
  apply h
  apply BitVec.eq_of_getLsbD_eq
  intro i hi
  rw [field, BitVec.getLsbD_extractLsb']
  interval_cases i
  · exact h1
  · exact h0

/-! ### Writes that set nothing off -/

theorem exec_mtspr_hypv {n : BitVec 10} {s t : State} {r : Spr} {p : Privilege} (hs : s.hypervisor = true)
    (hn : sprForWrite s.cfg n = some (r, p)) {rs : Reg} (ht : s.moveToSpr r (s.readGpr rs) = .next t) :
    exec (.mtspr n rs) s = .next t := by
  rw [exec_mtspr_of_sprForWrite hn, State.sprPrivilege_of_hypervisor hs, ht]

/-- A write that can move the fetch goes on where it moves neither the instruction nor the next one (R632). -/
theorem State.moveToSpr_altersFetch {s : State} {r : Spr} {v : Word} (hr : r.altersFetch = true)
    (hallowed : s.sprRefusal r v = none) (hbranch : s.noImplicitBranch (s.advance.writeSpr r v)) :
    s.moveToSpr r v = .next (s.advance.writeSpr r v) := by
  have hsame : (s.advance.writeSpr r v).afterSprWrite r s.time.tb ⟨s.cia, s.msr, none⟩ = s.advance.writeSpr r v := by
    cases r with
    | lpcr | rmor | hrmor | sdr1 => rfl
    | _ => cases hr
  rw [State.moveToSpr, hallowed]
  dsimp only
  rw [if_pos hr, hsame]
  exact State.alter_next.mpr ⟨implicitBranch_eq_false.mpr hbranch, rfl⟩

/-- A write to a half of the Time Base sets nothing off where nothing is enabled (R590). -/
theorem State.moveToSpr_timeBase {s : State} (hquiet : monitorQuiet s.pm.mmcr0) {r : Spr} (hr : r = .tbl ∨ r = .tbu) (v : Word) :
    s.moveToSpr r v = .next (s.advance.writeSpr r v) := by
  have ⟨h41, _⟩ := hquiet
  have hevent (t : State) (ht : t.pm.mmcr0 = s.pm.mmcr0) (a b : Word) (p : Sample) : t.pmEvaluate (t.tbEvent a b) p = t := by
    have hnone : t.tbEvent a b = false := by simp [State.tbEvent, State.mmcr0, ht, h41]
    rw [hnone]
    exact State.pmEvaluate_of_quiet (ht ▸ hquiet) p
  obtain rfl | rfl := hr
  · exact congrArg _ (hevent (s.advance.writeSpr .tbl v) rfl _ _ _)
  · exact congrArg _ (hevent (s.advance.writeSpr .tbu v) rfl _ _ _)

/-- Settles O37: number by number the move is the write of its register. -/
theorem mtsprWritesHypervisorRegisters : Obligations.MtsprWritesHypervisorRegisters := by
  intro rs s hs v go
  refine ⟨?hsprg0, ?hsprg1, ?purr, ?hdec, ?hsrr0, ?hsrr1, ?lpidr, ?dabr, ?dabrx, fun hear => ?ear,
    fun hquiet => ⟨?tbl, ?tbu⟩, ?sdr1, ?rmor, ?hrmor, ?lpcr⟩
  case ear => exact exec_mtspr_hypv (r := .ear) (p := .hypv) hs (by simp [sprForWrite, commonSpr, provided, hear]) rfl
  case tbl => exact exec_mtspr_hypv (r := .tbl) (p := .hypv) hs rfl (State.moveToSpr_timeBase hquiet (.inl rfl) _)
  case tbu => exact exec_mtspr_hypv (r := .tbu) (p := .hypv) hs rfl (State.moveToSpr_timeBase hquiet (.inr rfl) _)
  case sdr1 =>
    intro stored t hkept hbranch
    refine exec_mtspr_hypv (r := .sdr1) (p := .hypv) hs rfl (State.moveToSpr_altersFetch rfl (if_neg ?_) hbranch)
    rw [Bool.and_eq_true, not_and_or]
    exact hkept.imp Bool.eq_false_iff.mp fun hsame => Bool.eq_false_iff.mp (bne_eq_false_iff_eq.mpr hsame)
  case rmor =>
    intro t hmultiple hbranch
    exact exec_mtspr_hypv (r := .rmor) (p := .hypv) hs rfl
      (State.moveToSpr_altersFetch rfl (if_pos (and_lowMask_eq_zero _ _ hmultiple)) hbranch)
  case hrmor =>
    intro t hmultiple hrange hbranch
    exact exec_mtspr_hypv (r := .hrmor) (p := .hypv) hs rfl (State.moveToSpr_altersFetch rfl
      (if_pos ⟨and_lowMask_eq_zero _ _ hmultiple, and_rmorMask_and_not_realMask _ _ hrange⟩) hbranch)
  case lpcr =>
    intro t hlpes hbranch
    exact exec_mtspr_hypv (r := .lpcr) (p := .hypv) hs rfl
      (State.moveToSpr_altersFetch rfl (if_neg (Bool.eq_false_iff.mp (lpes_allowed hlpes))) hbranch)
  all_goals exact exec_mtspr_hypv (p := .hypv) hs rfl rfl

end Sys2Proof.Machine
end
